-- ==== Sys2Proof/Word.lean ====
section
/-! DEFINITION. The bit vectors of ATSUC-CRWW: bytes, host operation words, register offsets, button bitmaps. -/

namespace Sys2Proof

/-- A register's content and the bus data (`REG_WIDTH` = 8, R5). -/
abbrev Byte := BitVec 8

/-- A host operation word `w[15:0]` (R54). -/
abbrev Word := BitVec 16

/-- A register offset (`OFF_WIDTH` = 4, R5). -/
abbrev Offset := BitVec 4

/-- Twelve button positions, bit k for button k (`N_BUTTONS` = 12, R5). -/
abbrev Buttons := BitVec 12

end Sys2Proof
end

