-- ==== Sys2Proof/Syntax.lean ====
section
/-! DEFINITION. The host operations: one constructor for each of the 22 rows of the opcode table (R58, R59, R60).
An operand is exactly the bits that the row leaves open. -/

namespace Sys2Proof

/-- A host operation. A name is the row's mnemonic; the three rows of RD_RSVD and of WR_RSVD carry the offsets they
cover, and `o` is the part of the offset that the row leaves open (bit 8, or bits 10:8, of the word). -/
inductive Instr where
  | rdCmd
  | rdStatus
  | rdBtnLo
  | rdBtnHi
  | rdWdtctrl
  | rdRsvd5
  | rdRsvd6to7 (o : BitVec 1)
  | rdRsvd8toF (o : BitVec 3)
  | wrCmdStart
  | wrCmdKick
  | wrCmdRsvd (data : Byte)
  | wrStatus (data : Byte)
  | wrBtnLo (data : Byte)
  | wrBtnHi (data : Byte)
  | wrWdtctrl (data : Byte)
  | wrRsvd5 (data : Byte)
  | wrRsvd6to7 (o : BitVec 1) (data : Byte)
  | wrRsvd8toF (o : BitVec 3) (data : Byte)
  | cli
  | sei
  | sleep
  | seiSleep
  deriving DecidableEq, Repr

end Sys2Proof
end

