-- ==== Sys2Proof/WellFormed.lean ====
section
/-! DEFINITION. Which terms of `Instr` some word spells. -/

namespace Sys2Proof

/-- The one constraint that an operand's width does not give by itself: the row WR_CMD_RSVD has the lowest
precedence, so its DATA is neither 0x01 (START) nor 0x02 (KICK) (R59, R103). -/
def WellFormed : Instr → Bool
  | .wrCmdRsvd data => data != 0x01#8 && data != 0x02#8
  | .rdCmd | .rdStatus | .rdBtnLo | .rdBtnHi | .rdWdtctrl | .rdRsvd5 => true
  | .rdRsvd6to7 _ | .rdRsvd8toF _ => true
  | .wrCmdStart | .wrCmdKick => true
  | .wrStatus _ | .wrBtnLo _ | .wrBtnHi _ | .wrWdtctrl _ | .wrRsvd5 _ => true
  | .wrRsvd6to7 _ _ | .wrRsvd8toF _ _ => true
  | .cli | .sei | .sleep | .seiSleep => true

end Sys2Proof
end

