-- ==== Sys2Proof/Decode.lean ====
section
/-! DEFINITION. The decoder of host operation words (R54 to R63), the encoder, and the opcode table as data. -/

namespace Sys2Proof

/-- Why a word spells no host operation: one name for each item of R61. -/
inductive DecodeError where
  /-- `w[15:14] = 0b11`. -/
  | invalidClass
  /-- Format B with `w[13:12] != 0b00`. -/
  | reservedBitsB
  /-- A read (CLS = 0b00) with `w[7:0] != 0x00`. -/
  | readWithData
  /-- Format C with `w[13:8] != 0`. -/
  | reservedBitsC
  /-- Format C with `w[7:0] > 0x03`. -/
  | unknownPrimitive
  deriving DecidableEq, Repr

/-! The fields of a word (R54, R55, R56, R57). -/

/-- `CLS`, bits 15:14 (R54). -/
def wordCls (w : Word) : BitVec 2 := w.extractLsb' 14 2

/-- `RSV` of format B, bits 13:12 (R55). -/
def wordRsvB (w : Word) : BitVec 2 := w.extractLsb' 12 2

/-- `RSV` of format C, bits 13:8 (R56). -/
def wordRsvC (w : Word) : BitVec 6 := w.extractLsb' 8 6

/-- `OFF`, bits 11:8 (R55, R57). -/
def wordOff (w : Word) : Offset := w.extractLsb' 8 4

/-- `DATA` of format B and `PRIM` of format C, bits 7:0 (R55, R56, R57). -/
def wordData (w : Word) : Byte := w.extractLsb' 0 8

/-- The read at an offset (R58). -/
def decodeRead (off : Offset) : Instr :=
  if off = 0x0#4 then .rdCmd
  else if off = 0x1#4 then .rdStatus
  else if off = 0x2#4 then .rdBtnLo
  else if off = 0x3#4 then .rdBtnHi
  else if off = 0x4#4 then .rdWdtctrl
  else if off = 0x5#4 then .rdRsvd5
  else if off.extractLsb' 1 3 = 0b011#3 then .rdRsvd6to7 (off.extractLsb' 0 1)
  else .rdRsvd8toF (off.extractLsb' 0 3)

/-- The write of the CMD register, split by its data (R59). -/
def decodeCommand (data : Byte) : Instr :=
  if data = 0x01#8 then .wrCmdStart
  else if data = 0x02#8 then .wrCmdKick
  else .wrCmdRsvd data

/-- The write at an offset (R59). -/
def decodeWrite (off : Offset) (data : Byte) : Instr :=
  if off = 0x0#4 then decodeCommand data
  else if off = 0x1#4 then .wrStatus data
  else if off = 0x2#4 then .wrBtnLo data
  else if off = 0x3#4 then .wrBtnHi data
  else if off = 0x4#4 then .wrWdtctrl data
  else if off = 0x5#4 then .wrRsvd5 data
  else if off.extractLsb' 1 3 = 0b011#3 then .wrRsvd6to7 (off.extractLsb' 0 1) data
  else .wrRsvd8toF (off.extractLsb' 0 3) data

/-- The host-core primitive of a PRIM code (R56, R60). -/
def decodePrim (prim : Byte) : Except DecodeError Instr :=
  if prim = 0x00#8 then .ok .cli
  else if prim = 0x01#8 then .ok .sei
  else if prim = 0x02#8 then .ok .sleep
  else if prim = 0x03#8 then .ok .seiSleep
  else .error .unknownPrimitive

/-- The decoder: total on words; an invalid word is refused by name (R54, R61). -/
def decode (w : Word) : Except DecodeError Instr :=
  if wordCls w = 0b11#2 then .error .invalidClass
  else if wordCls w = 0b10#2 then
    if wordRsvC w = 0#6 then decodePrim (wordData w) else .error .reservedBitsC
  else if wordRsvB w = 0b00#2 then
    if wordCls w = 0b01#2 then .ok (decodeWrite (wordOff w) (wordData w))
    else if wordData w = 0x00#8 then .ok (decodeRead (wordOff w))
    else .error .readWithData
  else .error .reservedBitsB

/-- The decoder on an opcode-table word of `nbits` bits, its bits above `nbits` zero. A host operation is one 16-bit
word (R54) and is never stored in memory, so no byte order arises (R44). -/
def decodeTableWord (nbits w : Nat) : Option Instr :=
  if 16 < nbits then none
  else match decode (BitVec.ofNat 16 (w % 2 ^ nbits)) with
    | .ok i => some i
    | .error _ => none

/-! The encoder, written from the same formats. -/

/-- A word of format B, `CC00 oooo dddd dddd` (R55). -/
def formatB (cls : BitVec 2) (off : Offset) (data : Byte) : Word := cls ++ 0b00#2 ++ off ++ data

/-- A word of format C, `1000 0000 pppp pppp` (R56). -/
def formatC (prim : Byte) : Word := 0b10#2 ++ 0b000000#6 ++ prim

/-- A read of an offset (R58). -/
def encodeRead (off : Offset) : Word := formatB 0b00#2 off 0x00#8

/-- A write of a byte to an offset (R59). -/
def encodeWrite (off : Offset) (data : Byte) : Word := formatB 0b01#2 off data

/-- The word of a host operation (R58, R59, R60). -/
def encode : Instr → Word
  | .rdCmd => encodeRead 0x0#4
  | .rdStatus => encodeRead 0x1#4
  | .rdBtnLo => encodeRead 0x2#4
  | .rdBtnHi => encodeRead 0x3#4
  | .rdWdtctrl => encodeRead 0x4#4
  | .rdRsvd5 => encodeRead 0x5#4
  | .rdRsvd6to7 o => encodeRead (0b011#3 ++ o)
  | .rdRsvd8toF o => encodeRead (0b1#1 ++ o)
  | .wrCmdStart => encodeWrite 0x0#4 0x01#8
  | .wrCmdKick => encodeWrite 0x0#4 0x02#8
  | .wrCmdRsvd data => encodeWrite 0x0#4 data
  | .wrStatus data => encodeWrite 0x1#4 data
  | .wrBtnLo data => encodeWrite 0x2#4 data
  | .wrBtnHi data => encodeWrite 0x3#4 data
  | .wrWdtctrl data => encodeWrite 0x4#4 data
  | .wrRsvd5 data => encodeWrite 0x5#4 data
  | .wrRsvd6to7 o data => encodeWrite (0b011#3 ++ o) data
  | .wrRsvd8toF o data => encodeWrite (0b1#1 ++ o) data
  | .cli => formatC 0x00#8
  | .sei => formatC 0x01#8
  | .sleep => formatC 0x02#8
  | .seiSleep => formatC 0x03#8

/-! The opcode table as data. -/

/-- A row of the opcode table: a word belongs to it when `word AND mask = pattern`. -/
structure TableRow where
  mnemonic : String
  pattern : Word
  mask : Word
  deriving DecidableEq, Repr

/-- Whether a word matches a row. -/
def TableRow.covers (r : TableRow) (w : Word) : Bool := w &&& r.mask == r.pattern

/-- The row of each constructor, as `opcode_table.json` gives its match and mask. -/
def rowOf : Instr → TableRow
  | .rdCmd => ⟨"RD_CMD", 0x0000#16, 0xFFFF#16⟩
  | .rdStatus => ⟨"RD_STATUS", 0x0100#16, 0xFFFF#16⟩
  | .rdBtnLo => ⟨"RD_BTN_LO", 0x0200#16, 0xFFFF#16⟩
  | .rdBtnHi => ⟨"RD_BTN_HI", 0x0300#16, 0xFFFF#16⟩
  | .rdWdtctrl => ⟨"RD_WDTCTRL", 0x0400#16, 0xFFFF#16⟩
  | .rdRsvd5 => ⟨"RD_RSVD", 0x0500#16, 0xFFFF#16⟩
  | .rdRsvd6to7 _ => ⟨"RD_RSVD", 0x0600#16, 0xFEFF#16⟩
  | .rdRsvd8toF _ => ⟨"RD_RSVD", 0x0800#16, 0xF8FF#16⟩
  | .wrCmdStart => ⟨"WR_CMD_START", 0x4001#16, 0xFFFF#16⟩
  | .wrCmdKick => ⟨"WR_CMD_KICK", 0x4002#16, 0xFFFF#16⟩
  | .wrCmdRsvd _ => ⟨"WR_CMD_RSVD", 0x4000#16, 0xFF00#16⟩
  | .wrStatus _ => ⟨"WR_STATUS", 0x4100#16, 0xFF00#16⟩
  | .wrBtnLo _ => ⟨"WR_BTN_LO", 0x4200#16, 0xFF00#16⟩
  | .wrBtnHi _ => ⟨"WR_BTN_HI", 0x4300#16, 0xFF00#16⟩
  | .wrWdtctrl _ => ⟨"WR_WDTCTRL", 0x4400#16, 0xFF00#16⟩
  | .wrRsvd5 _ => ⟨"WR_RSVD", 0x4500#16, 0xFF00#16⟩
  | .wrRsvd6to7 _ _ => ⟨"WR_RSVD", 0x4600#16, 0xFE00#16⟩
  | .wrRsvd8toF _ _ => ⟨"WR_RSVD", 0x4800#16, 0xF800#16⟩
  | .cli => ⟨"CLI", 0x8000#16, 0xFFFF#16⟩
  | .sei => ⟨"SEI", 0x8001#16, 0xFFFF#16⟩
  | .sleep => ⟨"SLEEP", 0x8002#16, 0xFFFF#16⟩
  | .seiSleep => ⟨"SEI_SLEEP", 0x8003#16, 0xFFFF#16⟩

/-- One operation of each row, in the table's order, so that `rowOf` lists the table once. -/
def rowSamples : List Instr :=
  [.rdCmd, .rdStatus, .rdBtnLo, .rdBtnHi, .rdWdtctrl, .rdRsvd5, .rdRsvd6to7 0, .rdRsvd8toF 0,
   .wrCmdStart, .wrCmdKick, .wrCmdRsvd 0, .wrStatus 0, .wrBtnLo 0, .wrBtnHi 0, .wrWdtctrl 0,
   .wrRsvd5 0, .wrRsvd6to7 0 0, .wrRsvd8toF 0 0, .cli, .sei, .sleep, .seiSleep]

/-- The 22 rows of the opcode table. -/
def opcodeTable : List TableRow := rowSamples.map rowOf

end Sys2Proof
end

