-- ==== Sys2Proof/Config.lean ====
section
/-! DEFINITION. What a build fixes (R5, R6), who can move next (R9), what a host program can ask for, and the free
values: constants with no body, of which no proof can know the value. -/

namespace Sys2Proof

/-- The settle profile, chosen at build time (R5, R6). -/
inductive Profile where
  | fast
  | compatible
  deriving DecidableEq, Repr, Inhabited

/-- The two interrupt sources that reach the host core (R123). -/
inductive IrqSource where
  | wake
  | other
  deriving DecidableEq, Repr, Inhabited

/-- `DATA_SYNC_STAGES` (R5). -/
def dataSyncStages : Nat := 2

/-- `N_BUTTONS` (R5). -/
def nButtons : Nat := 12

/-- The implementation parameters of R5, with the platform's vectors and entry point (R49, R119, R126). -/
structure Build where
  /-- `SETTLE_PROFILE`. -/
  profile : Profile
  /-- `SETTLE_CYCLES`, in core ticks. -/
  settleCycles : Nat
  /-- `WAKE_PERIOD`, in WDT ticks. -/
  wakePeriod : Nat
  /-- `RESET_WINDOW`, in WDT ticks. -/
  resetWindow : Nat
  /-- `IRQ_PRIORITY`: the source taken first when both are pending. -/
  irqPriority : IrqSource
  /-- `BASE`, the bus address of offset 0. -/
  base : Nat
  /-- `T_RESP`, the environment's controller response time in core ticks. -/
  tResp : Nat
  /-- `F_CORE`, the core clock frequency in hertz; no step reads it (R12). -/
  fCore : Nat
  /-- `F_WDT`, the watchdog oscillator frequency in hertz; no step reads it (R12). -/
  fWdt : Nat
  /-- `WAKE_VECTOR`, where the host core goes on the wake interrupt (R126). -/
  wakeVector : Nat
  /-- The other source's vector (R126). -/
  otherVector : Nat
  /-- The platform's entry point, where the host core starts after a reset (R119). -/
  entryPoint : Nat
  deriving DecidableEq, Repr

/-- The bounds that R5 and R42 put on the parameters. -/
abbrev Build.Legal (b : Build) : Prop :=
  dataSyncStages ≤ b.settleCycles ∧ 1 ≤ b.wakePeriod ∧ b.wakePeriod < b.resetWindow ∧ b.base % 16 = 0 ∧ 1 ≤ b.tResp

/-- The nominal settle time of a profile in nanoseconds, about 1 µs and about 12 µs (R5, R6; approximate, and no rule
depends on it, R12). -/
def Profile.nominalSettleNs : Profile → Nat
  | .fast => 1000
  | .compatible => 12000

/-- The nominal `SETTLE_CYCLES = ceil(T_SETTLE * F_CORE)` at a core clock of `hz` hertz (R5). -/
def Profile.nominalSettleCycles (p : Profile) (hz : Nat) : Nat := (p.nominalSettleNs * hz + 999999999) / 1000000000

/-- The nominal `SETTLE_CYCLES` of a build (R5). -/
def Build.nominalSettleCycles (b : Build) : Nat := b.profile.nominalSettleCycles b.fCore

/-- The nominal `WAKE_PERIOD` of a build: some tens of milliseconds times `F_WDT`; how many tens the spec does not say
(R5). -/
def Build.nominalWakePeriod (b : Build) (tens : Nat) : Nat := 10 * tens * b.fWdt / 1000

/-- The nominal `RESET_WINDOW` of a build: about one second times `F_WDT` (R5). -/
def Build.nominalResetWindow (b : Build) : Nat := b.fWdt

/-- A bus access of the host: an address, a width in bytes, and the byte written (none: a read) (R8, R42, R45). -/
structure BusAccess where
  addr : Nat
  bytes : Nat
  write : Option Byte
  deriving DecidableEq, Repr

/-- What a host program can ask for. -/
inductive Request where
  /-- A host operation word (R54). -/
  | word (w : Word)
  /-- A bus access (R8). -/
  | access (a : BusAccess)
  /-- A poll loop, `l: v <- RD reg; if v[bit] = 1 goto l` (R64, R65): the register is read until the bit reads 0. -/
  | readWhile (off : Offset) (bit : Nat)
  deriving DecidableEq, Repr

/-- One turn of one agent (R9). -/
inductive Turn where
  /-- HOST: one host operation, if R114 enables one. -/
  | host
  /-- CORE_TICK: one rising edge of the core clock (R70). -/
  | coreTick
  /-- WDT_TICK: one rising edge of the watchdog clock (R86). -/
  | wdtTick
  /-- IRQ: the host core takes a pending enabled interrupt (R115). -/
  | irq
  /-- ENV: the DATA pin is set to a level (R79). -/
  | data (level : Bool)
  /-- ENV: another interrupt source becomes pending (R117). -/
  | other
  /-- ENV: the wire levels at the reference controller's inputs (R80); none: no reference controller is attached. -/
  | controller (wire : Option Buttons)
  /-- Power-on, or another platform reset with the same effect (R138). -/
  | reset
  deriving DecidableEq, Repr, Inhabited

/-! The free values. -/

/-- OPEN: how far `SETTLE_CYCLES` lies above its bound (R5). -/
opaque Config.settleAboveMinimum : Nat

/-- OPEN: how far `WAKE_PERIOD` lies above its bound (R5). -/
opaque Config.wakeAboveMinimum : Nat

/-- OPEN: how far `RESET_WINDOW` lies above its bound (R5). -/
opaque Config.windowAboveMinimum : Nat

/-- OPEN: `IRQ_PRIORITY` (R5). -/
opaque Config.irqPriority : IrqSource

/-- OPEN: `BASE` in units of 16 (R42). -/
opaque Config.basePage : Nat

/-- OPEN: how far `T_RESP` lies above its bound (R5). -/
opaque Config.respAboveMinimum : Nat

/-- OPEN: `F_CORE` (R5). -/
opaque Config.fCore : Nat

/-- OPEN: `F_WDT` (R5). -/
opaque Config.fWdt : Nat

/-- OPEN: `WAKE_VECTOR` (R5, R49). -/
opaque Config.wakeVector : Nat

/-- OPEN: the other source's vector (R126). -/
opaque Config.otherVector : Nat

/-- OPEN: the reset entry point (R49, R141). -/
opaque Config.entryPoint : Nat

/-- The level of the DATA pin when the machine starts: the environment's, nothing constrains it (R79). -/
opaque Config.dataAtStart : Bool

/-- The agent that moves next when no schedule says so: any (R9). -/
opaque Config.freeTurn : Nat → Turn

/-- What the host program does next when no request is queued: any host operation, or (none) a host-side statement
that has no encoding and changes nothing here (R64, R120). -/
opaque Config.freeOperation : Nat → Option Instr

/-- The build of this hardware: FAST (R5), every OPEN parameter free within its bounds. -/
def Config.build : Build where
  profile := .fast
  settleCycles := dataSyncStages + Config.settleAboveMinimum
  wakePeriod := 1 + Config.wakeAboveMinimum
  resetWindow := 2 + Config.wakeAboveMinimum + Config.windowAboveMinimum
  irqPriority := Config.irqPriority
  base := 16 * Config.basePage
  tResp := 1 + Config.respAboveMinimum
  fCore := Config.fCore
  fWdt := Config.fWdt
  wakeVector := Config.wakeVector
  otherVector := Config.otherVector
  entryPoint := Config.entryPoint

end Sys2Proof
end

