-- ==== Sys2Proof/Machine/State.lean ====
section
/-! DEFINITION. The machine's state as plain data: every element of R17, the host-core state of R33, the DATA pin and
the reference controller of the environment, and the model's own fields (schedule, requests, returned byte). -/

namespace Sys2Proof.Machine

/-- `SEQ.PHASE` (R26). -/
inductive Phase where
  | idle
  | latchHold
  | sample
  | clkLow
  deriving DecidableEq, Repr

/-- The reader sequencer's state (R26). -/
structure Seq where
  phase : Phase
  /-- `SEQ.K`, 0 to 11: the button being sampled. -/
  k : Nat
  /-- `SEQ.CNT`, 0 to `SETTLE_CYCLES`: the settle-delay down counter. -/
  cnt : Nat
  /-- `SEQ.SHIFT`: the bitmap under assembly. -/
  shift : Buttons
  deriving DecidableEq, Repr

/-- The watchdog clock domain (R32). -/
structure Wdt where
  /-- `W_REQ`, the wake request toggle. -/
  req : Bool
  /-- `W_A1`, `W_A2`: the synchroniser of `WK_ACK`. -/
  a1 : Bool
  a2 : Bool
  /-- `W_K1`, `W_K2`: the synchroniser of `KK_REQ`. -/
  k1 : Bool
  k2 : Bool
  /-- `W_KACK`, the kick acknowledge toggle. -/
  kack : Bool
  /-- `W_E1`, `W_E2`: the synchroniser of `WDT_CTRL.WDE`. -/
  e1 : Bool
  e2 : Bool
  /-- `WCNT`, the free-running wake counter. -/
  wcnt : Nat
  /-- `RCNT`, the liveness reset counter. -/
  rcnt : Nat
  deriving DecidableEq, Repr

/-- The reference controller of the environment (R80). -/
structure Controller where
  /-- `REF.WIRE`: bit k is the wire level of button k, 0 = pressed. -/
  wire : Buttons
  /-- `REF.SNAP`: the captured copy. -/
  snap : Buttons
  /-- `REF.POS`, 0 to 12: the output position. -/
  pos : Nat
  /-- The response count: CORE_TICKs since `LATCH` or `CLOCK` last changed. -/
  age : Nat
  deriving DecidableEq, Repr

/-- The machine. -/
structure State where
  /-- The parameters of the build (R5); no step changes them (R6). -/
  build : Build
  /-- `BUTTONS[15:0]` (R25). -/
  buttons : BitVec 16
  /-- `SEQ` (R26). -/
  seq : Seq
  /-- The output pins (R27). -/
  latch : Bool
  clock : Bool
  /-- `DSYNC[1]`, `DSYNC[2]` (R28). -/
  dsync1 : Bool
  dsync2 : Bool
  /-- `STATUS.WAKEF` (R29). -/
  wakef : Bool
  /-- `WDT_CTRL.WDE`, `WDT_CTRL.WIE` (R30). -/
  wde : Bool
  wie : Bool
  /-- `WK_R1`, `WK_R2`, `WK_ACK` (R31). -/
  wkR1 : Bool
  wkR2 : Bool
  wkAck : Bool
  /-- `KK_REQ`, `KK_A1`, `KK_A2` (R31). -/
  kkReq : Bool
  kkA1 : Bool
  kkA2 : Bool
  /-- The watchdog clock domain (R32). -/
  wdt : Wdt
  /-- `GIE`, `SLEEPING`, `OTHER_PEND` (R33). -/
  gie : Bool
  sleeping : Bool
  otherPend : Bool
  /-- Where the hardware last sent the host core: the entry point at a reset (R119, R141), or an interrupt's vector at
  its entry (R115, R126). -/
  vectoredTo : Nat
  /-- The level the environment puts on the DATA pin (R79); with a reference controller attached, the level the pin
  shows while that controller's output is not settled or past its last bit (R80). -/
  dataPin : Bool
  /-- The reference controller, if the environment has one attached (R80). -/
  controller : Option Controller
  /-- The model's own: the byte the last read of the block returned to the host program (R57). -/
  rdata : Byte
  /-- The model's own: what the host program asks for next, oldest first. -/
  prog : List Request
  /-- The model's own: the turns still to take, oldest first. -/
  turns : List Turn
  /-- The model's own: how many free choices have been drawn. -/
  draws : Nat
  deriving DecidableEq, Repr

/-- The block raises no exception and has no fault state (R121, R122): no step faults, so no reason exists. -/
inductive Fault where
  deriving DecidableEq, Repr

/-- Why a step is refused. -/
inductive Refusal where
  /-- Raised by an arm of `exec` whose instruction has no meaning yet; no arm does. Safe. -/
  | notModelled (mnemonic : String)
  /-- Raised by the HOST turn on a word that spells no host operation (R61, R122). Safe. -/
  | invalidWord (why : DecodeError)
  /-- Raised by the HOST turn on an access to the window of a width other than one byte (R45, R61, R122). Safe. -/
  | accessWidth (bytes : Nat)
  deriving DecidableEq, Repr

/-- What a step or a meaning answers. -/
abbrev Result := Host.Outcome State Fault Refusal

/-- The sequencer after reset (R38). -/
def Seq.reset : Seq where
  phase := .idle
  k := 0
  cnt := 0
  shift := 0x000#12

/-- The watchdog clock domain after reset (R38). -/
def Wdt.reset : Wdt where
  req := false
  a1 := false
  a2 := false
  k1 := false
  k2 := false
  kack := false
  e1 := false
  e2 := false
  wcnt := 0
  rcnt := 0

/-- The machine right after power-on: every element at its value of R38. The environment's DATA pin is free, no
reference controller is attached, and nothing is scheduled or asked for. -/
def State.reset : State where
  build := Config.build
  buttons := 0x0000#16
  seq := Seq.reset
  latch := false
  clock := false
  dsync1 := false
  dsync2 := false
  wakef := false
  wde := false
  wie := false
  wkR1 := false
  wkR2 := false
  wkAck := false
  kkReq := false
  kkA1 := false
  kkA2 := false
  wdt := Wdt.reset
  gie := false
  sleeping := false
  otherPend := false
  vectoredTo := Config.build.entryPoint
  dataPin := Config.dataAtStart
  controller := none
  rdata := 0x00#8
  prog := []
  turns := []
  draws := 0

end Sys2Proof.Machine
end

