-- ==== Sys2Proof/Machine/Flags.lean ====
section
/-! DEFINITION. The flags and output lines derived from the state, and the bytes STATUS and WDT_CTRL show (R13, R20,
R23, R34, R85, R93, R99, R100). -/

namespace Sys2Proof.Machine

/-- `STATUS.BUSY`: a controller read is in progress (R20, R34). -/
def busy (s : State) : Bool := s.seq.phase != .idle

/-- `STATUS.PROFILE`, hardwired by the build: 0 for FAST, 1 for COMPATIBLE (R20). -/
def profileBit (s : State) : Bool := s.build.profile == .compatible

/-- `STATUS.KBUSY`: a kick is in flight to the WDT domain (R20, R34). -/
def kbusy (s : State) : Bool := s.kkReq != s.kkA2

/-- The `IRQ_WAKE` output: the level of `STATUS.WAKEF` (R100). -/
def irqWake (s : State) : Bool := s.wakef

/-- The `WAKE_ASYNC` output: armed, and a wake event departed that the core domain has not taken (R99). -/
def wakeAsync (s : State) : Bool := s.wie && (s.wdt.req != s.wkAck)

/-- What STATUS reads: `{0000, KBUSY, WAKEF, PROFILE, BUSY}` (R93). -/
def statusByte (s : State) : Byte :=
  0b0000#4 ++ BitVec.ofBool (kbusy s) ++ BitVec.ofBool s.wakef ++ BitVec.ofBool (profileBit s) ++ BitVec.ofBool (busy s)

/-- What WDT_CTRL reads: `{000000, WIE, WDE}` (R85). -/
def wdtCtrlByte (s : State) : Byte := 0b000000#6 ++ BitVec.ofBool s.wie ++ BitVec.ofBool s.wde

end Sys2Proof.Machine
end

