-- ==== Sys2Proof/Machine/Operands.lean ====
section
/-! DEFINITION. The register map as a host sees it: what each offset reads, and how a bus access selects an operation
(R18 to R24, R42, R43, R45, R57, R58). -/

namespace Sys2Proof.Machine

/-- `BUTTONS[7:0]` (R21, R77). -/
def btnLoByte (s : State) : Byte := s.buttons.extractLsb' 0 8

/-- `BUTTONS[15:8]` (R22, R78). -/
def btnHiByte (s : State) : Byte := s.buttons.extractLsb' 8 8

/-- What CMD and the reserved offsets read (R102, R106). -/
def emptyByte : Byte := 0x00#8

/-- What one byte of the window reads, by offset: the register map (R18). It is the machine's read of one byte; the
block has no memory behind it (R41). -/
def regRead (off : Offset) (s : State) : Byte :=
  if off = 0x1#4 then statusByte s
  else if off = 0x2#4 then btnLoByte s
  else if off = 0x3#4 then btnHiByte s
  else if off = 0x4#4 then wdtCtrlByte s
  else emptyByte

/-- Whether an address lies in the block's window, `BASE <= a < BASE + 16` (R42). -/
def selects (b : Build) (addr : Nat) : Bool := b.base ≤ addr && addr < b.base + 16

/-- The offset an address of the window selects, `a - BASE` (R42). -/
def offsetOf (b : Build) (addr : Nat) : Offset := BitVec.ofNat 4 (addr - b.base)

/-- Whether some byte of an access lies in the window (R42, R45). -/
def touches (b : Build) (a : BusAccess) : Bool := b.base < a.addr + max a.bytes 1 && a.addr < b.base + 16

/-- The host operation that a one-byte access of the window is (R57): `MemRead(BASE + off, 1)` or
`MemWrite(BASE + off, 1, v)` (R8). -/
def accessWord (b : Build) (a : BusAccess) : Word :=
  match a.write with
  | none => encodeRead (offsetOf b a.addr)
  | some v => encodeWrite (offsetOf b a.addr) v

end Sys2Proof.Machine
end

