-- ==== Sys2Proof/Machine/Ops.lean ====
section
/-! DEFINITION. The named operations that the meanings and the agents share: returning a byte, driving the pins, the
DATA level, enabling, taking an interrupt and returning from it, and the full reset. -/

namespace Sys2Proof.Machine

/-- A read's result goes to the host program, to no state of the block (R57). -/
def returnByte (v : Byte) (s : State) : State := { s with rdata := v }

/-- An access that the block ignores: reserved, or read-only (R62, R108). -/
def ignoreWrite (_data : Byte) (s : State) : State := s

/-! The pins, and the reference controller that sees them. -/

/-- What the reference controller does when the pins go from `(l, c)` to `(l', c')`: while `LATCH` is 1 it captures its
inputs, on a falling `CLOCK` with `LATCH` 0 it moves on by one, and any change restarts the response count (R80).
DESIGN CHOICE (log 6): where both pins fall in one step, as at a reset in LATCH_HOLD, R80 does not say whether that
`CLOCK` fall is "while `LATCH = 0`"; the new level of `LATCH` decides, so it counts. -/
def Controller.observe (l c l' c' : Bool) (r : Controller) : Controller :=
  { r with
    snap := if l' then r.wire else r.snap
    pos := if l' then 0 else if c && !c' then min (r.pos + 1) nButtons else r.pos
    age := if l == l' && c == c' then r.age else 0 }

/-- Drive `LATCH` and `CLOCK` to new levels in one step (R27). -/
def drivePins (l c : Bool) (s : State) : State :=
  { s with
    latch := l
    clock := c
    controller := s.controller.map (Controller.observe s.latch s.clock l c) }

/-- Whether a CORE_TICK now is at least tick number `T_RESP` of the response count, and the output position is one of
the twelve (R80). -/
def Controller.settled (tResp : Nat) (r : Controller) : Bool := tResp ≤ r.age + 1 && r.pos < nButtons

/-- The level of the DATA pin at a CORE_TICK: what the environment puts there (R79); from a reference controller whose
output is settled, `REF.SNAP[REF.POS]` (R80). That `dataPin` is also the level of every `draw()` is the model's choice
(log 5). -/
def dataLevel (s : State) : Bool :=
  match s.controller with
  | none => s.dataPin
  | some r => if r.settled s.build.tResp then r.snap.getLsbD r.pos else s.dataPin

/-- The wire levels at the reference controller's inputs move (R80). R80 gives no initial state: DESIGN CHOICE (log 6),
a controller attached while `LATCH` is 0 has `REF.SNAP` equal to its wires, position 12, where it shows no settled level
before `LATCH` is next high, and response count 0; attached while `LATCH` is 1, it captures its wires and stands at
position 0 as R80 says, with the response count 0 of the same choice. -/
def setWires (wire : Option Buttons) (s : State) : State :=
  { s with controller := wire.map fun w =>
      match s.controller with
      | none => { wire := w, snap := w, pos := if s.latch then 0 else nButtons, age := 0 }
      | some r => { r with wire := w, snap := if s.latch then w else r.snap } }

/-! Interrupts: enabling, entry, return. -/

/-- Some interrupt is pending (R123). -/
def irqPending (s : State) : Bool := s.wakef || s.otherPend

/-- The IRQ step is enabled (R115). -/
def irqEnabled (s : State) : Bool := s.gie && irqPending s

/-- A HOST step is enabled (R114). -/
def hostEnabled (s : State) : Bool := !s.sleeping && !irqEnabled s

/-- The source an IRQ step takes: the pending one, or of two the one that `IRQ_PRIORITY` puts first (R115, R125). -/
def irqSource (s : State) : IrqSource :=
  if s.wakef && s.otherPend then s.build.irqPriority else if s.wakef then .wake else .other

/-- Entry: the handler runs with interrupts disabled, the host core goes to the source's vector, and taking a source
clears its pending bit; for the wake interrupt that is the block's `irq_ack_wake` (R100, R115, R126). -/
def irqEnter (src : IrqSource) (s : State) : State :=
  match src with
  | .wake => { s with gie := false, wakef := false, vectoredTo := s.build.wakeVector }
  | .other => { s with gie := false, otherPend := false, vectoredTo := s.build.otherVector }

/-- Return from the handler, which touched nothing: interrupts enabled again, and the core awake (R115, R128). -/
def irqReturn (s : State) : State := { s with gie := true, sleeping := false }

/-- Taking an interrupt: entry, an empty handler body, return, as one atomic step (R115, R116, R118). -/
def takeIrq (s : State) : State := irqReturn (irqEnter (irqSource s) s)

/-! Reset. -/

/-- The full-device reset, by `WatchdogReset` or at power-on: every element takes its value of R38 and the host program
starts over at the entry point, in one atomic step (R119, R127, R139 to R141). What lies outside the device stays: the build, the DATA pin,
the reference controller (which sees the pins fall), and the schedule. -/
def fullReset (s : State) : State :=
  { State.reset with
    build := s.build
    vectoredTo := s.build.entryPoint
    dataPin := s.dataPin
    controller := (drivePins false false s).controller
    turns := s.turns
    draws := s.draws }

end Sys2Proof.Machine
end

