-- ==== Sys2Proof/Machine/CoreIf.lean ====
section
/-! DEFINITION. The host-core primitives (43_core_interface.md). Whether one of them may run at all in a state is the
HOST turn's question (R114), not theirs. -/

namespace Sys2Proof.Machine

/-- CLI: `GIE <- 0` (R110). -/
def execCli (s : State) : Result := .next { s with gie := false }

/-- SEI: `GIE <- 1` (R111). -/
def execSei (s : State) : Result := .next { s with gie := true }

/-- SLEEP: `SLEEPING <- true` (R112). -/
def execSleep (s : State) : Result := .next { s with sleeping := true }

/-- SEI_SLEEP: `GIE <- 1` and `SLEEPING <- true` as one atomic step (R113). -/
def execSeiSleep (s : State) : Result := .next { s with gie := true, sleeping := true }

end Sys2Proof.Machine
end

