-- ==== Sys2Proof/Machine/Reader.lean ====
section
/-! DEFINITION. The controller reader (40_controller_reader.md): WR_CMD_START, RD_BTN_LO, RD_BTN_HI, and the parts of
a CORE_TICK that are the DATA synchroniser and the sequencer. A tick part reads `old`, the state at the start of the
step, and writes on `s`, what the other parts have left (R8, R70). -/

namespace Sys2Proof.Machine

/-- Start a read: clear SHIFT, load the settle delay, raise both pins in the same step (R67). -/
def startRead (s : State) : State :=
  drivePins true true
    { s with seq := { phase := .latchHold, k := 0, cnt := s.build.settleCycles, shift := 0x000#12 } }

/-- WR_CMD_START: idle, it starts a read (R67); busy, it has no effect (R68). -/
def execWrCmdStart (s : State) : Result := .next (if busy s then s else startRead s)

/-- RD_BTN_LO returns `BUTTONS[7:0]` (R77). -/
def execRdBtnLo (s : State) : Result := .next (returnByte (btnLoByte s) s)

/-- RD_BTN_HI returns `BUTTONS[15:8]` (R78). -/
def execRdBtnHi (s : State) : Result := .next (returnByte (btnHiByte s) s)

/-- The DATA synchroniser shift (R71). -/
def dataSyncTick (old s : State) : State := { s with dsync1 := dataLevel old, dsync2 := old.dsync1 }

/-- The reference controller's response count sees one CORE_TICK (R80). -/
def responseTick (s : State) : State :=
  { s with controller := s.controller.map fun r => { r with age := r.age + 1 } }

/-- Sequencer in LATCH_HOLD: count down, then lower LATCH with CLOCK high (R73). -/
def latchHoldTick (old s : State) : State :=
  let c := old.seq.cnt - 1
  if c = 0 then drivePins false old.clock { s with seq := { old.seq with cnt := c, phase := .sample } }
  else { s with seq := { old.seq with cnt := c } }

/-- `v[k] <- b` on a 12-bit vector, for `k` below 12 (R8). -/
def setBit (v : Buttons) (k : Nat) (b : Bool) : Buttons :=
  if b then v ||| 1#12 <<< k else v &&& ~~~(1#12 <<< k)

/-- Sequencer in SAMPLE: the inverted synchronised level goes to SHIFT[K], and CLOCK falls (R74). -/
def sampleTick (old s : State) : State :=
  drivePins old.latch false
    { s with seq := { old.seq with
        shift := setBit old.seq.shift old.seq.k (!old.dsync2)
        cnt := old.build.settleCycles
        phase := .clkLow } }

/-- The commit that ends a read: BUTTONS takes the twelve bits, bits 15:12 zero, and the sequencer is idle (R75). -/
def commitRead (old s : State) : State :=
  { s with buttons := old.seq.shift.zeroExtend 16, seq := { old.seq with cnt := 0, k := 0, phase := .idle } }

/-- Sequencer in CLK_LOW: count down, then raise CLOCK and go to the next sample, or commit after the twelfth (R75). -/
def clkLowTick (old s : State) : State :=
  let c := old.seq.cnt - 1
  if c = 0 then
    if old.seq.k = 11 then drivePins old.latch true (commitRead old s)
    else drivePins old.latch true { s with seq := { old.seq with cnt := 0, k := old.seq.k + 1, phase := .sample } }
  else { s with seq := { old.seq with cnt := c } }

/-- One sequencer step, by the phase it started in (R70, R72 to R75). -/
def seqTick (old s : State) : State :=
  match old.seq.phase with
  | .idle => s
  | .latchHold => latchHoldTick old s
  | .sample => sampleTick old s
  | .clkLow => clkLowTick old s

end Sys2Proof.Machine
end

