-- ==== Sys2Proof/Machine/RegBus.lean ====
section
/-! DEFINITION. The other register accesses (42_register_bus.md): reads that return 0x00 and writes that are ignored. -/

namespace Sys2Proof.Machine

/-- RD_CMD returns 0x00 (R102). -/
def execRdCmd (s : State) : Result := .next (returnByte emptyByte s)

/-- RD_RSVD at offset 0x5 returns 0x00 (R106). -/
def execRdRsvd5 (s : State) : Result := .next (returnByte emptyByte s)

/-- RD_RSVD at offsets 0x6 and 0x7 returns 0x00 (R106). -/
def execRdRsvd6to7 (_o : BitVec 1) (s : State) : Result := .next (returnByte emptyByte s)

/-- RD_RSVD at offsets 0x8 to 0xF returns 0x00 (R106). -/
def execRdRsvd8toF (_o : BitVec 3) (s : State) : Result := .next (returnByte emptyByte s)

/-- WR_CMD_RSVD has no effect: the codes are values, not bit masks (R103). -/
def execWrCmdRsvd (data : Byte) (s : State) : Result := .next (ignoreWrite data s)

/-- WR_BTN_LO has no effect: BTN_LO is read-only (R104). -/
def execWrBtnLo (data : Byte) (s : State) : Result := .next (ignoreWrite data s)

/-- WR_BTN_HI has no effect: BTN_HI is read-only (R105). -/
def execWrBtnHi (data : Byte) (s : State) : Result := .next (ignoreWrite data s)

/-- WR_RSVD at offset 0x5 has no effect (R107). -/
def execWrRsvd5 (data : Byte) (s : State) : Result := .next (ignoreWrite data s)

/-- WR_RSVD at offsets 0x6 and 0x7 has no effect (R107). -/
def execWrRsvd6to7 (_o : BitVec 1) (data : Byte) (s : State) : Result := .next (ignoreWrite data s)

/-- WR_RSVD at offsets 0x8 to 0xF has no effect (R107). -/
def execWrRsvd8toF (_o : BitVec 3) (data : Byte) (s : State) : Result := .next (ignoreWrite data s)

end Sys2Proof.Machine
end

