-- ==== Sys2Proof/Machine/Watchdog.lean ====
section
/-! DEFINITION. Watchdog, wake and clock-domain crossing (41_watchdog_wake.md): WR_CMD_KICK, WR_WDTCTRL, RD_WDTCTRL,
RD_STATUS, WR_STATUS, the parts of a WDT_TICK, and the crossing parts of a CORE_TICK. -/

namespace Sys2Proof.Machine

/-- A kick departs for the WDT domain if none is in flight, and is merged otherwise (R83). -/
def departKick (s : State) : State := if kbusy s then s else { s with kkReq := !s.kkReq }

/-- WR_CMD_KICK (R83). -/
def execWrCmdKick (s : State) : Result := .next (departKick s)

/-- Write WDT_CTRL: WDE is set-only, WIE takes bit 1, the other bits are ignored (R84, R108). -/
def writeWdtCtrl (data : Byte) (s : State) : State :=
  { s with wde := s.wde || data.getLsbD 0, wie := data.getLsbD 1 }

/-- WR_WDTCTRL (R84). -/
def execWrWdtctrl (data : Byte) (s : State) : Result := .next (writeWdtCtrl data s)

/-- RD_WDTCTRL (R85). -/
def execRdWdtctrl (s : State) : Result := .next (returnByte (wdtCtrlByte s) s)

/-- RD_STATUS (R93). -/
def execRdStatus (s : State) : Result := .next (returnByte (statusByte s) s)

/-- Write STATUS: a 1 in bit 2 clears WAKEF, the other bits are ignored (R94, R108). -/
def writeStatus (data : Byte) (s : State) : State := { s with wakef := s.wakef && !data.getLsbD 2 }

/-- WR_STATUS (R94). -/
def execWrStatus (data : Byte) (s : State) : Result := .next (writeStatus data s)

/-! CORE_TICK: the core side of the crossings. -/

/-- The core-side synchroniser shifts (R88). -/
def coreSyncTick (old s : State) : State :=
  { s with wkR1 := old.wdt.req, wkR2 := old.wkR1, kkA1 := old.wdt.kack, kkA2 := old.kkA1 }

/-- A wake event has arrived in the core domain (R92). -/
def wakeArrives (s : State) : Bool := s.wkR2 != s.wkAck

/-- Wake detection: acknowledge, and deliver if armed (WAKEF set, the arming consumed) or drop (R92). -/
def wakeDeliveryTick (old s : State) : State :=
  if wakeArrives old then
    { s with wkAck := old.wkR2, wakef := old.wie || s.wakef, wie := false }
  else s

/-! WDT_TICK. -/

/-- The WDT-side synchroniser shifts (R87). -/
def wdtSyncTick (old s : State) : State :=
  { s with wdt := { s.wdt with
      a1 := old.wkAck, a2 := old.wdt.a1
      k1 := old.kkReq, k2 := old.wdt.k1
      e1 := old.wde, e2 := old.wdt.e1 } }

/-- `kick_arr`: a kick arrives at this WDT tick (R89). -/
def kickArrives (s : State) : Bool := s.wdt.k2 != s.wdt.kack

/-- Kick detection acknowledges the kick (R89). -/
def kickTick (old s : State) : State :=
  if kickArrives old then { s with wdt := { s.wdt with kack := old.wdt.k2 } } else s

/-- The reset counter's value after this tick: 0 while not enabled or at a kick's arrival, else one more (R90). -/
def nextRcnt (s : State) : Nat := if !s.wdt.e2 || kickArrives s then 0 else s.wdt.rcnt + 1

/-- This WDT tick raises `WatchdogReset`, the `WDT_RESET` output: an enabled tick with no kick reaches the window
(R90, R127). -/
def watchdogExpires (s : State) : Bool := s.wdt.e2 && !kickArrives s && s.build.resetWindow ≤ s.wdt.rcnt + 1

/-- The liveness reset counter, on a tick that raises no reset (R90). -/
def resetCounterTick (old s : State) : State := { s with wdt := { s.wdt with rcnt := nextRcnt old } }

/-- The wake counter's value after this tick (R91). -/
def nextWcnt (s : State) : Nat := (s.wdt.wcnt + 1) % s.build.wakePeriod

/-- A wake event departs at this tick: a period has elapsed and none is in flight (R91). -/
def wakeDeparts (s : State) : Bool := nextWcnt s == 0 && s.wdt.req == s.wdt.a2

/-- The wake counter and the wake request (R91). -/
def wakeCounterTick (old s : State) : State :=
  { s with wdt := { s.wdt with
      wcnt := nextWcnt old
      req := if wakeDeparts old then !old.wdt.req else old.wdt.req } }

/-- One WDT_TICK: all four parts at once (R86), or, if the watchdog expires, the reset and nothing else (R125, R127). -/
def wdtTick (s : State) : State :=
  if watchdogExpires s then fullReset s
  else wakeCounterTick s (resetCounterTick s (kickTick s (wdtSyncTick s s)))

end Sys2Proof.Machine
end

