-- ==== Sys2Proof/Machine/Dispatch.lean ====
section
/-! DEFINITION. One arm for each host operation. -/

namespace Sys2Proof.Machine

def exec (i : Instr) (s : State) : Host.Outcome State Fault Refusal :=
  match i with
  | .rdCmd => Sys2Proof.Machine.execRdCmd s
  | .rdStatus => Sys2Proof.Machine.execRdStatus s
  | .rdBtnLo => Sys2Proof.Machine.execRdBtnLo s
  | .rdBtnHi => Sys2Proof.Machine.execRdBtnHi s
  | .rdWdtctrl => Sys2Proof.Machine.execRdWdtctrl s
  | .rdRsvd5 => Sys2Proof.Machine.execRdRsvd5 s
  | .rdRsvd6to7 o => Sys2Proof.Machine.execRdRsvd6to7 o s
  | .rdRsvd8toF o => Sys2Proof.Machine.execRdRsvd8toF o s
  | .wrCmdStart => Sys2Proof.Machine.execWrCmdStart s
  | .wrCmdKick => Sys2Proof.Machine.execWrCmdKick s
  | .wrCmdRsvd data => Sys2Proof.Machine.execWrCmdRsvd data s
  | .wrStatus data => Sys2Proof.Machine.execWrStatus data s
  | .wrBtnLo data => Sys2Proof.Machine.execWrBtnLo data s
  | .wrBtnHi data => Sys2Proof.Machine.execWrBtnHi data s
  | .wrWdtctrl data => Sys2Proof.Machine.execWrWdtctrl data s
  | .wrRsvd5 data => Sys2Proof.Machine.execWrRsvd5 data s
  | .wrRsvd6to7 o data => Sys2Proof.Machine.execWrRsvd6to7 o data s
  | .wrRsvd8toF o data => Sys2Proof.Machine.execWrRsvd8toF o data s
  | .cli => Sys2Proof.Machine.execCli s
  | .sei => Sys2Proof.Machine.execSei s
  | .sleep => Sys2Proof.Machine.execSleep s
  | .seiSleep => Sys2Proof.Machine.execSeiSleep s

end Sys2Proof.Machine
end

