-- ==== Sys2Proof/Machine/Agents.lean ====
section
/-! DEFINITION. The agents and their turns (R9): the core tick, the host turn with the fetch of a request, the choice of
the next turn, and what each turn does. -/

namespace Sys2Proof.Machine

/-- One CORE_TICK: the crossing parts, the DATA synchroniser and one sequencer step, all reading the state at the start
of the step (R70). -/
def coreTick (s : State) : State :=
  seqTick s (responseTick (dataSyncTick s (wakeDeliveryTick s (coreSyncTick s s))))

/-! The HOST turn. -/

/-- Run a host operation word: decode it, then its meaning; an invalid word is refused by name (R54, R61). -/
def runWord (w : Word) (s : State) : Result :=
  match decode w with
  | .ok i => exec i s
  | .error why => .refused (.invalidWord why)

/-- Run a bus access: outside the window it is not the block's and changes nothing here (R42); of one byte it is the
host operation at its offset (R57); of another width it is refused (R45). -/
def runAccess (a : BusAccess) (s : State) : Result :=
  if touches s.build a then
    if a.bytes = 1 then runWord (accessWord s.build a) s else .refused (.accessWidth a.bytes)
  else .next s

/-- One round of a poll loop: read the register, and ask again first thing if the bit of the byte read is 1 (R64, R65).
The jump back is the host core's own and no step (R120). -/
def runReadWhile (off : Offset) (bit : Nat) (s : State) : Result :=
  exec (decodeRead off)
    (if (regRead off s).getLsbD bit then { s with prog := .readWhile off bit :: s.prog } else s)

/-- Run what the host program asks for. -/
def runRequest (r : Request) (s : State) : Result :=
  match r with
  | .word w => runWord w s
  | .access a => runAccess a s
  | .readWhile off bit => runReadWhile off bit s

/-- What the host program does when no request is queued: a free choice of a host operation, or of a host-side
statement, which changes nothing here (R64, R120). -/
def runFree (s : State) : Result :=
  match Config.freeOperation s.draws with
  | some i => exec i { s with draws := s.draws + 1 }
  | none => .next { s with draws := s.draws + 1 }

/-- HOST: enabled, the host performs the oldest queued request, or a free one; not enabled, it executes nothing and its
next request waits (R114). -/
def hostTurn (s : State) : Result :=
  if hostEnabled s then
    match s.prog with
    | r :: rest => runRequest r { s with prog := rest }
    | [] => runFree s
  else .next s

/-- IRQ: enabled, it takes one interrupt; otherwise nothing happens (R115). -/
def irqTurn (s : State) : State := if irqEnabled s then takeIrq s else s

/-- The environment puts a level on the DATA pin (R79). -/
def setData (level : Bool) (s : State) : State := { s with dataPin := level }

/-- The environment raises another interrupt source (R117). -/
def raiseOther (s : State) : State := { s with otherPend := true }

/-- What a turn does. -/
def takeTurn (t : Turn) (s : State) : Result :=
  match t with
  | .host => hostTurn s
  | .coreTick => .next (coreTick s)
  | .wdtTick => .next (wdtTick s)
  | .irq => .next (irqTurn s)
  | .data level => .next (setData level s)
  | .other => .next (raiseOther s)
  | .controller wire => .next (setWires wire s)
  | .reset => .next (fullReset s)

/-- The turn that comes next: the oldest scheduled one, or a free one (R9). -/
def nextTurn (s : State) : Turn :=
  match s.turns with
  | t :: _ => t
  | [] => Config.freeTurn s.draws

/-- The state with the next turn taken off the schedule, or drawn. -/
def popTurn (s : State) : State :=
  match s.turns with
  | _ :: rest => { s with turns := rest }
  | [] => { s with draws := s.draws + 1 }

end Sys2Proof.Machine
end

