-- ==== Sys2Proof/Machine/Step.lean ====
section
/-! DEFINITION. One step of the machine: the next agent takes its turn. -/

namespace Sys2Proof.Machine

/-- One step: the agent whose turn it is takes it (R9). -/
def step (s : State) : Host.Outcome State Fault Refusal := takeTurn (nextTurn s) (popTurn s)

/-- The state whose next step is a HOST turn that performs the given word: the host program asks for it next, and the
HOST moves next. In a state where R114 enables no host operation, none can run, and the request waits. -/
def State.withFetchWord (s : State) (nbits w : Nat) : State :=
  { s with
    prog := .word (BitVec.ofNat 16 (w % 2 ^ nbits)) :: s.prog
    turns := .host :: s.turns }

end Sys2Proof.Machine
end

