-- ==== Sys2Proof/Machine/Pseudo.lean ====
section
/-! DEFINITION. The assembler spelling (R64) and the pseudo-operations (R65) of host programs. -/

namespace Sys2Proof.Machine

/-- One hexadecimal digit. -/
def hexDigit (n : Nat) : Char := "0123456789ABCDEF".toList.getD n '?'

/-- A byte as an immediate, `#0xNN` (R64). -/
def immText (v : Byte) : String :=
  "#0x" ++ String.singleton (hexDigit (v.toNat / 16)) ++ String.singleton (hexDigit (v.toNat % 16))

/-- The spelling of a reserved offset, `@0x5` to `@0xF` (R64). -/
def offText (off : Offset) : String := "@0x" ++ String.singleton (hexDigit off.toNat)

/-- The assembler spelling of a host operation (R64). -/
def asmText : Instr → String
  | .rdCmd => "RD CMD"
  | .rdStatus => "RD STATUS"
  | .rdBtnLo => "RD BTN_LO"
  | .rdBtnHi => "RD BTN_HI"
  | .rdWdtctrl => "RD WDT_CTRL"
  | .rdRsvd5 => "RD " ++ offText 0x5#4
  | .rdRsvd6to7 o => "RD " ++ offText (0b011#3 ++ o)
  | .rdRsvd8toF o => "RD " ++ offText (0b1#1 ++ o)
  | .wrCmdStart => "WR CMD, " ++ immText 0x01#8
  | .wrCmdKick => "WR CMD, " ++ immText 0x02#8
  | .wrCmdRsvd data => "WR CMD, " ++ immText data
  | .wrStatus data => "WR STATUS, " ++ immText data
  | .wrBtnLo data => "WR BTN_LO, " ++ immText data
  | .wrBtnHi data => "WR BTN_HI, " ++ immText data
  | .wrWdtctrl data => "WR WDT_CTRL, " ++ immText data
  | .wrRsvd5 data => "WR " ++ offText 0x5#4 ++ ", " ++ immText data
  | .wrRsvd6to7 o data => "WR " ++ offText (0b011#3 ++ o) ++ ", " ++ immText data
  | .wrRsvd8toF o data => "WR " ++ offText (0b1#1 ++ o) ++ ", " ++ immText data
  | .cli => "CLI"
  | .sei => "SEI"
  | .sleep => "SLEEP"
  | .seiSleep => "SEI_SLEEP"

/-- The pseudo-operations (R65). -/
inductive PseudoOp where
  | start
  | kick
  | armWake
  | disarmWake
  | wdtOnArm
  | wdtOn
  | clrWake
  | readController
  deriving DecidableEq, Repr

/-- A host operation as a request of the host program. -/
def request (i : Instr) : Request := .word (encode i)

/-- What a pseudo-operation asks for (R65). READ_CONTROLLER polls STATUS (offset 0x1) while BUSY (bit 0) reads 1. -/
def expandPseudo : PseudoOp → List Request
  | .start => [request .wrCmdStart]
  | .kick => [request .wrCmdKick]
  | .armWake => [request (.wrWdtctrl 0x02#8)]
  | .disarmWake => [request (.wrWdtctrl 0x00#8)]
  | .wdtOnArm => [request (.wrWdtctrl 0x03#8)]
  | .wdtOn => [request (.wrWdtctrl 0x01#8)]
  | .clrWake => [request (.wrStatus 0x04#8)]
  | .readController => [request .wrCmdStart, .readWhile 0x1#4 0, request .rdBtnLo, request .rdBtnHi]

/-- READ_CONTROLLER's result, `v = {hi, lo}` (R65, R43). -/
def controllerValue (hi lo : Byte) : BitVec 16 := hi ++ lo

end Sys2Proof.Machine
end

