-- ==== Sys2Proof/Machine/Trace.lean ====
section
/-! DEFINITION. Several ticks of one clock in a row, in which the spec's derived timing rules speak (R69, R97, R98,
R101, R158). -/

namespace Sys2Proof.Machine

/-- `n` CORE_TICKs in a row. -/
def coreTicks : Nat → State → State
  | 0, s => s
  | n + 1, s => coreTicks n (coreTick s)

/-- `n` WDT_TICKs in a row. -/
def wdtTicks : Nat → State → State
  | 0, s => s
  | n + 1, s => wdtTicks n (wdtTick s)

/-- One CORE_TICK for each level, the pin being at that level at that tick (R71, R79). -/
def dataTicks : List Bool → State → State
  | [], s => s
  | d :: ds, s => dataTicks ds (coreTick (setData d s))

/-- The core tick after a START at which the sample of button `k` is taken, `S + 1 + k (S + 1)` (R69). -/
def sampleAt (settle k : Nat) : Nat := settle + 1 + k * (settle + 1)

/-- The core tick after a START at which CLOCK rises after the sample of button `k`, `(k + 1) (S + 1) + S` (R69). -/
def riseAt (settle k : Nat) : Nat := (k + 1) * (settle + 1) + settle

/-- The core tick after a START that commits, `13 S + 12` (R69, R158). -/
def commitAt (settle : Nat) : Nat := 13 * settle + 12

end Sys2Proof.Machine
end

