-- ==== Sys2Proof/Safety.lean ====
section
/-! DEFINITION. The invariants of R40 and of the two handshakes, the stuck state of R122, and the runs and fairness of
R9 and R11, in the terms that claims use. -/

namespace Sys2Proof.Safety

open Sys2Proof.Machine

/-- R40 items 1 to 3, with the level of the pins in each phase (R27, R67, R73 to R75). -/
abbrev ReaderOk (s : State) : Prop :=
  s.buttons.extractLsb' 12 4 = 0#4 ∧
  s.seq.k ≤ 11 ∧
  ((s.seq.phase = .idle ∨ s.seq.phase = .latchHold) → s.seq.k = 0) ∧
  ((s.seq.phase = .latchHold ∨ s.seq.phase = .clkLow) → 1 ≤ s.seq.cnt ∧ s.seq.cnt ≤ s.build.settleCycles) ∧
  ((s.seq.phase = .idle ∨ s.seq.phase = .sample) → s.seq.cnt = 0) ∧
  (s.latch = true ↔ s.seq.phase = .latchHold) ∧
  ((s.seq.phase = .latchHold ∨ s.seq.phase = .sample) → s.clock = true) ∧
  (s.seq.phase = .clkLow → s.clock = false)

/-- How often neighbours differ in a list of toggles. -/
def changes : List Bool → Nat
  | [] => 0
  | [_] => 0
  | a :: b :: rest => (if a = b then 0 else 1) + changes (b :: rest)

/-- The wake handshake, from the request around to the returned acknowledge (R31, R32). -/
def wakeChain (s : State) : List Bool := [s.wdt.req, s.wkR1, s.wkR2, s.wkAck, s.wdt.a1, s.wdt.a2]

/-- The kick handshake, from the request around to the returned acknowledge (R31, R32). -/
def kickChain (s : State) : List Bool := [s.kkReq, s.wdt.k1, s.wdt.k2, s.wdt.kack, s.kkA1, s.kkA2]

/-- At most one wake event is in flight (R95). -/
abbrev WakeOk (s : State) : Prop := changes (wakeChain s) ≤ 1

/-- At most one kick is in flight (R96). -/
abbrev KickOk (s : State) : Prop := changes (kickChain s) ≤ 1

/-- The WDT domain: WDE crosses as a level that only rises, RCNT counts only while enabled (R40 item 8), and both
counters stay below their bounds (R32, R90, R91). -/
abbrev WdtOk (s : State) : Prop :=
  (s.wdt.e2 = true → s.wdt.e1 = true) ∧
  (s.wdt.e1 = true → s.wde = true) ∧
  (s.wdt.e2 = false → s.wdt.rcnt = 0) ∧
  s.wdt.wcnt < s.build.wakePeriod ∧
  s.wdt.rcnt < s.build.resetWindow

/-- The reference controller, if there is one: its output position is 0 to 12, and while LATCH is 1 it shows its
current inputs from the first (R80). -/
abbrev ControllerOk (s : State) : Prop :=
  ∀ r ∈ s.controller, r.pos ≤ nButtons ∧ (s.latch = true → r.pos = 0 ∧ r.snap = r.wire)

/-- The stuck state: asleep with interrupts disabled (R112, R122, R149). -/
abbrev Stuck (s : State) : Prop := s.sleeping = true ∧ s.gie = false

/-- CORE_TICK is owed: the host core is awake, or WAKE_ASYNC holds, or OTHER_PEND is set (R11). -/
abbrev coreTickOwed (s : State) : Prop := s.sleeping = false ∨ wakeAsync s = true ∨ s.otherPend = true

/-- Taking this turn in this state resets the machine: a platform reset, or a WDT_TICK that raises `WatchdogReset`
(R138). -/
abbrev Resets (t : Turn) (s : State) : Prop := t = .reset ∨ (t = .wdtTick ∧ watchdogExpires s = true)

/-- The turns of a list, taken one after the other, stopping at the first refusal. -/
def takeTurns : List Turn → State → Result
  | [], s => .next s
  | t :: ts, s =>
    match takeTurn t s with
    | .next u => takeTurns ts u
    | .fault r => .fault r
    | .refused r => .refused r

/-- An infinite run under a schedule: at every point the scheduled turn is taken (R9). -/
def IsRun (sched : Nat → Turn) (run : Nat → State) : Prop := ∀ n, takeTurn (sched n) (run n) = .next (run (n + 1))

/-- Weak fairness: a turn that is owed from some point on is taken after it (R11). -/
def WeaklyFair (sched : Nat → Turn) (run : Nat → State) (t : Turn) (owed : State → Prop) : Prop :=
  ∀ n, (∀ m, n ≤ m → owed (run m)) → ∃ m, n ≤ m ∧ sched m = t

/-- The fairness of R11: WDT_TICK always, CORE_TICK when owed, HOST and IRQ when enabled; ENV is never owed. -/
def Fair (sched : Nat → Turn) (run : Nat → State) : Prop :=
  WeaklyFair sched run .wdtTick (fun _ => True) ∧
  WeaklyFair sched run .coreTick coreTickOwed ∧
  WeaklyFair sched run .host (fun s => hostEnabled s = true) ∧
  WeaklyFair sched run .irq (fun s => irqEnabled s = true)

end Sys2Proof.Safety
end

