-- ==== Sys2Proof/Certificates/Slice0/Obligations.lean ====
section
/-! DEFINITION. What the provers are asked to prove about the model; each docstring names the rules of the spec that
the statement formalises. -/

open Sys2Proof Sys2Proof.Machine Sys2Proof.Safety

/-! ### Encoding -/

/-- Words written out from R58, R59 and R60 decode to the operations they stand for. -/
def Obligations.SpelledWordsDecode : Prop :=
  decode 0x0100#16 = .ok .rdStatus ∧
  decode 0x0E00#16 = .ok (.rdRsvd8toF 6#3) ∧
  decode 0x4001#16 = .ok .wrCmdStart ∧
  decode 0x4003#16 = .ok (.wrCmdRsvd 0x03#8) ∧
  decode 0x44A5#16 = .ok (.wrWdtctrl 0xA5#8) ∧
  decode 0x47FF#16 = .ok (.wrRsvd6to7 1#1 0xFF#8) ∧
  decode 0x8003#16 = .ok .seiSleep

/-- R54 to R60: every well-formed operation, with every operand at every value, is read back from its word. -/
def Obligations.DecodeOfEncode : Prop :=
  ∀ i : Instr, WellFormed i = true → decode (encode i) = .ok i

/-- R54 to R60: a word that decodes is the word of the operation read from it, and that operation is well-formed, so no
bit of a valid word is dropped. -/
def Obligations.EncodeOfDecode : Prop :=
  ∀ (w : Word) (i : Instr), decode w = .ok i → WellFormed i = true ∧ encode i = w

/-- R61: exactly the four kinds of invalid words are refused as such, and an access of more than one byte at an address
of the window is refused the same way. -/
def Obligations.InvalidWordsAndWidthsAreRefused : Prop :=
  (∀ (w : Word) (s : State), (∃ why, runWord w s = .refused (.invalidWord why)) ↔
    (w.extractLsb' 14 2 = 0b11#2 ∨
     ((w.extractLsb' 14 2 = 0b00#2 ∨ w.extractLsb' 14 2 = 0b01#2) ∧ w.extractLsb' 12 2 ≠ 0b00#2) ∨
     (w.extractLsb' 14 2 = 0b00#2 ∧ w.extractLsb' 0 8 ≠ 0x00#8) ∨
     (w.extractLsb' 14 2 = 0b10#2 ∧ (w.extractLsb' 8 6 ≠ 0#6 ∨ 0x03#8 < w.extractLsb' 0 8)))) ∧
  (∀ (a : BusAccess) (s : State), 2 ≤ a.bytes → s.build.base ≤ a.addr → a.addr < s.build.base + 16 →
    runAccess a s = .refused (.accessWidth a.bytes))

/-- R58 to R60: a word is valid exactly when it lies in some row of the opcode table, and the operation read from it is
one of a row that covers it. -/
def Obligations.ValidWordsAreTheTableRows : Prop :=
  (∀ w : Word, (∃ i, decode w = .ok i) ↔ opcodeTable.any (fun r => r.covers w) = true) ∧
  (∀ (w : Word) (i : Instr), decode w = .ok i → (rowOf i).covers w = true ∧ rowOf i ∈ opcodeTable)

/-! ### One step -/

/-- R9, R54, R114: at a HOST turn that R114 enables, with a word queued that decodes to `i`, the step is `exec i` of
the state with the turn and the word taken off their queues; and a fetched word runs as the very next step. -/
def Obligations.StepRunsTheDecodedOperation : Prop :=
  (∀ (s : State) (ts : List Turn) (w : Word) (rest : List Request) (i : Instr),
    s.turns = .host :: ts → s.prog = .word w :: rest → hostEnabled s = true → decode w = .ok i →
    step s = exec i { s with turns := ts, prog := rest }) ∧
  (∀ (s : State) (w : Word) (i : Instr), hostEnabled s = true → decode w = .ok i →
    step (s.withFetchWord 16 w.toNat) = exec i s)

/-- R121, R122, R61, R45: a step answers a next state whatever the state, unless the HOST's next queued request is an
invalid word or an access to the window of a width other than one byte: no operation, tick, interrupt or reset stops.
-/
def Obligations.OnlyInvalidRequestsStop : Prop :=
  ∀ s : State,
    (∀ w rest, s.prog = .word w :: rest → ∃ i, decode w = .ok i) →
    (∀ a rest, s.prog = .access a :: rest → a.bytes = 1 ∨ touches s.build a = false) →
    ∃ t, step s = .next t

/-- R114: a HOST turn runs its operation, given as a word, as a bus access, as a round of a poll loop (R64, R65), or
chosen freely when none is queued, exactly when the core is awake and no enabled interrupt is pending; otherwise it
executes nothing and the queue stays. That a HOST turn without an enabled operation passes is the model's choice (log
10), and so is the free operation (log 2). -/
def Obligations.HostRunsOnlyWhenEnabled : Prop :=
  ∀ s : State, nextTurn s = .host →
    (¬ (¬ s.sleeping = true ∧ ¬ (s.gie = true ∧ (s.wakef = true ∨ s.otherPend = true))) →
      step s = .next (popTurn s)) ∧
    (¬ s.sleeping = true ∧ ¬ (s.gie = true ∧ (s.wakef = true ∨ s.otherPend = true)) →
      (∀ (w : Word) (rest : List Request) (i : Instr), s.prog = .word w :: rest → decode w = .ok i →
        step s = exec i { popTurn s with prog := rest }) ∧
      (∀ (a : BusAccess) (rest : List Request), s.prog = .access a :: rest →
        step s = runAccess a { popTurn s with prog := rest }) ∧
      (∀ (off : Offset) (bit : Nat) (rest : List Request), s.prog = .readWhile off bit :: rest →
        step s = exec (decodeRead off)
          { popTurn s with prog := if (regRead off s).getLsbD bit = true then s.prog else rest }) ∧
      (s.prog = [] → step s = runFree (popTurn s)))

/-- R42, R46, R47, R57: a one-byte read at `BASE + off` returns what the register map shows at `off` and changes
nothing else; a one-byte write there is the write operation of that offset. -/
def Obligations.BusAccessSelectsByOffset : Prop :=
  ∀ (s : State) (off : Offset),
    runAccess { addr := s.build.base + off.toNat, bytes := 1, write := none } s
      = .next { s with rdata := regRead off s } ∧
    ∀ v : Byte, runAccess { addr := s.build.base + off.toNat, bytes := 1, write := some v } s
      = exec (decodeWrite off v) s

/-- R115, R126: an IRQ turn is enabled iff GIE is 1 and a source is pending; it clears exactly the pending bit of the
source it takes (of two, the one IRQ_PRIORITY names), goes to that source's vector, wakes the core, leaves GIE at 1,
and touches nothing else. That an IRQ turn which is not enabled passes is the model's choice (log 10), and that the
field `vectoredTo` keeps the vector after the handler's return is too (log 9). -/
def Obligations.IrqTakesOnePendingSource : Prop :=
  ∀ s : State, nextTurn s = .irq →
    (¬ (s.gie = true ∧ (s.wakef = true ∨ s.otherPend = true)) → step s = .next (popTurn s)) ∧
    (s.gie = true → s.wakef = true → s.otherPend = false →
      step s = .next { popTurn s with wakef := false, sleeping := false, vectoredTo := s.build.wakeVector }) ∧
    (s.gie = true → s.wakef = false → s.otherPend = true →
      step s = .next { popTurn s with otherPend := false, sleeping := false, vectoredTo := s.build.otherVector }) ∧
    (s.gie = true → s.wakef = true → s.otherPend = true → s.build.irqPriority = .wake →
      step s = .next { popTurn s with wakef := false, sleeping := false, vectoredTo := s.build.wakeVector }) ∧
    (s.gie = true → s.wakef = true → s.otherPend = true → s.build.irqPriority = .other →
      step s = .next { popTurn s with otherPend := false, sleeping := false, vectoredTo := s.build.otherVector })

/-- R125, R126: with both sources pending, two IRQ steps end in the same state whatever IRQ_PRIORITY is, but for the
vector gone to last, which is that of the source taken second. That the field `vectoredTo` keeps it after the handler's
return is the model's choice (log 9). -/
def Obligations.EitherIrqOrderEndsAlike : Prop :=
  ∀ s : State, s.gie = true → s.wakef = true → s.otherPend = true →
    irqTurn (irqTurn s) = { s with
      wakef := false
      otherPend := false
      sleeping := false
      vectoredTo := if s.build.irqPriority = .wake then s.build.otherVector else s.build.wakeVector }

/-! ### Host operations. What a read returns to the host program (R57) is seen in the model's own field `rdata`, log 3. -/

/-- R93: RD_STATUS returns KBUSY, WAKEF, PROFILE and BUSY in bits 3 to 0 and zeros above, all of this one step, and
changes nothing else. -/
def Obligations.StatusReadShowsItsFlags : Prop :=
  ∀ s : State, ∃ v : Byte, exec .rdStatus s = .next { s with rdata := v } ∧
    (v.getLsbD 0 = true ↔ s.seq.phase ≠ .idle) ∧
    (v.getLsbD 1 = true ↔ s.build.profile = .compatible) ∧
    v.getLsbD 2 = s.wakef ∧
    (v.getLsbD 3 = true ↔ s.kkReq ≠ s.kkA2) ∧
    v.extractLsb' 4 4 = 0b0000#4

/-- R85: RD_WDTCTRL returns WIE and WDE in bits 1 and 0 and zeros above, and changes nothing else. -/
def Obligations.WdtCtrlReadShowsItsEnables : Prop :=
  ∀ s : State, ∃ v : Byte, exec .rdWdtctrl s = .next { s with rdata := v } ∧
    v.getLsbD 0 = s.wde ∧ v.getLsbD 1 = s.wie ∧ v.extractLsb' 2 6 = 0b000000#6

/-- R77, R78, R43: RD_BTN_LO returns bits 7:0 of BUTTONS and RD_BTN_HI bits 15:8, and `{hi, lo}` is BUTTONS. -/
def Obligations.ButtonReadsSplitTheBitmap : Prop :=
  ∀ s : State, ∃ lo hi : Byte,
    exec .rdBtnLo s = .next { s with rdata := lo } ∧ exec .rdBtnHi s = .next { s with rdata := hi } ∧
    (∀ n, n < 8 → lo.getLsbD n = s.buttons.getLsbD n ∧ hi.getLsbD n = s.buttons.getLsbD (n + 8)) ∧
    hi ++ lo = s.buttons ∧
    (s.buttons.extractLsb' 12 4 = 0#4 → hi.extractLsb' 4 4 = 0#4)

/-- R102, R106: RD_CMD and the three rows of RD_RSVD return 0x00 and change nothing else. -/
def Obligations.EmptyReadsReturnZero : Prop :=
  ∀ (s : State) (o : BitVec 1) (o' : BitVec 3), ∀ i ∈ [Instr.rdCmd, .rdRsvd5, .rdRsvd6to7 o, .rdRsvd8toF o'],
    exec i s = .next { s with rdata := 0x00#8 }

/-- R103, R104, R105, R107: a reserved command code (any but 0x01 and 0x02, which is `WellFormed`) and the writes of
read-only and reserved locations change nothing, whatever the data. -/
def Obligations.IgnoredWritesChangeNothing : Prop :=
  ∀ (s : State) (o : BitVec 1) (o' : BitVec 3) (d : Byte),
    ∀ i ∈ [Instr.wrCmdRsvd d, .wrBtnLo d, .wrBtnHi d, .wrRsvd5 d, .wrRsvd6to7 o d, .wrRsvd8toF o' d],
      WellFormed i = true → exec i s = .next s

/-- R67: START with the sequencer idle clears SHIFT and K, loads the settle delay, raises both pins in the same step
and is in LATCH_HOLD, so that BUSY is 1; BUTTONS and every other element of the block and of the host core stay, and
so does every register but STATUS. -/
def Obligations.StartBeginsARead : Prop :=
  ∀ s : State, s.seq.phase = .idle →
    ∃ t, exec .wrCmdStart s = .next t ∧
      t.seq = { phase := .latchHold, k := 0, cnt := s.build.settleCycles, shift := 0x000#12 } ∧
      t.latch = true ∧ t.clock = true ∧ (regRead 0x1#4 t).getLsbD 0 = true ∧
      t = { s with seq := t.seq, latch := t.latch, clock := t.clock, controller := t.controller } ∧
      ∀ off : Offset, off ≠ 0x1#4 → regRead off t = regRead off s

/-- R68: START while a read is in progress has no effect. -/
def Obligations.StartWhileBusyIsIgnored : Prop :=
  ∀ s : State, s.seq.phase ≠ .idle → exec .wrCmdStart s = .next s

/-- R83: a KICK departs (KK_REQ toggles, KBUSY becomes 1) if none is in flight, and is merged without a change
otherwise; nothing else changes, and no register but STATUS. -/
def Obligations.KickDepartsOrMerges : Prop :=
  ∀ s : State, ∃ t, exec .wrCmdKick s = .next t ∧
    (s.kkReq = s.kkA2 → t = { s with kkReq := !s.kkReq } ∧ (regRead 0x1#4 t).getLsbD 3 = true) ∧
    (s.kkReq ≠ s.kkA2 → t = s) ∧
    ∀ off : Offset, off ≠ 0x1#4 → regRead off t = regRead off s

/-- R84: WR_WDTCTRL sets WDE if bit 0 is 1 and never clears it, writes WIE from bit 1, ignores bits 7:2, and changes no
other element and no other register. -/
def Obligations.WdtCtrlWriteSetsItsEnables : Prop :=
  ∀ (s : State) (d : Byte), ∃ t, exec (.wrWdtctrl d) s = .next t ∧
    t = { s with wde := if d.getLsbD 0 = true then true else s.wde, wie := d.getLsbD 1 } ∧
    (∀ d' : Byte, d'.getLsbD 0 = d.getLsbD 0 → d'.getLsbD 1 = d.getLsbD 1 → exec (.wrWdtctrl d') s = .next t) ∧
    ∀ off : Offset, off ≠ 0x4#4 → regRead off t = regRead off s

/-- R94: WR_STATUS clears WAKEF if bit 2 is 1, ignores every other bit, and changes no other element and no other
register. -/
def Obligations.StatusWriteClearsWake : Prop :=
  ∀ (s : State) (d : Byte), ∃ t, exec (.wrStatus d) s = .next t ∧
    (d.getLsbD 2 = true → t = { s with wakef := false }) ∧
    (d.getLsbD 2 = false → t = s) ∧
    ∀ off : Offset, off ≠ 0x1#4 → regRead off t = regRead off s

/-- R110, R111, R112, R113: the four primitives write GIE and SLEEPING as their rules say and nothing else; SEI_SLEEP
writes both in one step. -/
def Obligations.PrimitivesWriteGieAndSleeping : Prop :=
  ∀ s : State,
    exec .cli s = .next { s with gie := false } ∧
    exec .sei s = .next { s with gie := true } ∧
    exec .sleep s = .next { s with sleeping := true } ∧
    exec .seiSleep s = .next { s with gie := true, sleeping := true }

/-- R47: of the sixteen registers, STATUS changes only by START, KICK and WR_STATUS, WDT_CTRL only by WR_WDTCTRL, and
no other byte of the window by any host operation. -/
def Obligations.HostOperationsLeaveOtherRegisters : Prop :=
  ∀ (i : Instr) (s t : State), exec i s = .next t → ∀ off : Offset,
    (off ≠ 0x1#4 → off ≠ 0x4#4 → regRead off t = regRead off s) ∧
    (i ≠ .wrCmdStart → i ≠ .wrCmdKick → (∀ d, i ≠ .wrStatus d) → regRead 0x1#4 t = regRead 0x1#4 s) ∧
    ((∀ d, i ≠ .wrWdtctrl d) → regRead 0x4#4 t = regRead 0x4#4 s)

/-- R51, R48: no host operation writes the WDT domain, a synchroniser stage, an acknowledge, BUTTONS, the build, the
vector, or what the environment and the schedule hold, with one exception: START moves the pins, which the reference
controller sees at once (R80). A host write reaches the other domain only through later ticks. -/
def Obligations.HostOperationsStayInTheCoreDomain : Prop :=
  ∀ (i : Instr) (s t : State), exec i s = .next t →
    t.wdt = s.wdt ∧ t.buttons = s.buttons ∧ t.build = s.build ∧
    t.dsync1 = s.dsync1 ∧ t.dsync2 = s.dsync2 ∧
    t.wkR1 = s.wkR1 ∧ t.wkR2 = s.wkR2 ∧ t.wkAck = s.wkAck ∧ t.kkA1 = s.kkA1 ∧ t.kkA2 = s.kkA2 ∧
    t.otherPend = s.otherPend ∧ t.dataPin = s.dataPin ∧ t.vectoredTo = s.vectoredTo ∧
    t.prog = s.prog ∧ t.turns = s.turns ∧ t.draws = s.draws ∧
    (i ≠ .wrCmdStart → t.controller = s.controller)

/-! ### The core tick -/

/-- R70, R71, R88, R136: a CORE_TICK shifts the DATA synchroniser, which takes the pin's level or what a settled
reference controller shows (R80), and the two core-side synchronisers by one stage; and it leaves the WDT domain, WDE,
KK_REQ, the host core, the environment's pin and the schedule as they were. That the level taken from a controller which
is not settled or past its last bit, any level in R80, is that of `dataPin` is the model's choice (log 5). -/
def Obligations.CoreTickShiftsSynchronisersAndLeavesTheRest : Prop :=
  ∀ s : State,
    (coreTick s).dsync2 = s.dsync1 ∧ (coreTick s).dsync1 = dataLevel s ∧
    (s.controller = none → (coreTick s).dsync1 = s.dataPin) ∧
    (∀ r, s.controller = some r → s.build.tResp ≤ r.age + 1 → r.pos < 12 →
      (coreTick s).dsync1 = r.snap.getLsbD r.pos) ∧
    (∀ r, s.controller = some r → (r.age + 1 < s.build.tResp ∨ 12 ≤ r.pos) → (coreTick s).dsync1 = s.dataPin) ∧
    (coreTick s).wkR2 = s.wkR1 ∧ (coreTick s).wkR1 = s.wdt.req ∧
    (coreTick s).kkA2 = s.kkA1 ∧ (coreTick s).kkA1 = s.wdt.kack ∧
    coreTick s = { s with
      buttons := (coreTick s).buttons, seq := (coreTick s).seq
      latch := (coreTick s).latch, clock := (coreTick s).clock
      dsync1 := (coreTick s).dsync1, dsync2 := (coreTick s).dsync2
      wakef := (coreTick s).wakef, wie := (coreTick s).wie
      wkR1 := (coreTick s).wkR1, wkR2 := (coreTick s).wkR2, wkAck := (coreTick s).wkAck
      kkA1 := (coreTick s).kkA1, kkA2 := (coreTick s).kkA2
      controller := (coreTick s).controller }

/-- R92: an arrived wake event is acknowledged; armed, it sets WAKEF and consumes the arming; not armed, it is dropped.
With no event, the three stay. -/
def Obligations.CoreTickDeliversAWake : Prop :=
  ∀ s : State,
    (s.wkR2 ≠ s.wkAck → (coreTick s).wkAck = s.wkR2 ∧
      (s.wie = true → (coreTick s).wakef = true ∧ (coreTick s).wie = false) ∧
      (s.wie = false → (coreTick s).wakef = s.wakef ∧ (coreTick s).wie = false)) ∧
    (s.wkR2 = s.wkAck →
      (coreTick s).wkAck = s.wkAck ∧ (coreTick s).wakef = s.wakef ∧ (coreTick s).wie = s.wie)

/-- R72, R73: idle, a tick moves nothing of the reader; in LATCH_HOLD it counts down, and at 0 it lowers LATCH, with
CLOCK unchanged, and goes to SAMPLE. -/
def Obligations.CoreTickIdleAndLatchHold : Prop :=
  ∀ s : State,
    (s.seq.phase = .idle → (coreTick s).seq = s.seq ∧ (coreTick s).latch = s.latch ∧
      (coreTick s).clock = s.clock ∧ (coreTick s).buttons = s.buttons) ∧
    (s.seq.phase = .latchHold → 1 ≤ s.seq.cnt →
      (coreTick s).seq = { s.seq with
        cnt := s.seq.cnt - 1, phase := if s.seq.cnt = 1 then .sample else .latchHold } ∧
      (coreTick s).latch = (if s.seq.cnt = 1 then false else s.latch) ∧
      (coreTick s).clock = s.clock ∧ (coreTick s).buttons = s.buttons)

/-- R74: in SAMPLE, the inverted `DSYNC[2]` goes to SHIFT[K] and to no other bit, CLOCK falls, the settle delay is
loaded and the phase is CLK_LOW. -/
def Obligations.CoreTickSamplesOneBit : Prop :=
  ∀ s : State, s.seq.phase = .sample → s.seq.k ≤ 11 →
    (∀ j, (coreTick s).seq.shift.getLsbD j = if j = s.seq.k then !s.dsync2 else s.seq.shift.getLsbD j) ∧
    (coreTick s).seq.phase = .clkLow ∧ (coreTick s).seq.cnt = s.build.settleCycles ∧
    (coreTick s).seq.k = s.seq.k ∧
    (coreTick s).clock = false ∧ (coreTick s).latch = s.latch ∧ (coreTick s).buttons = s.buttons

/-- R75: in CLK_LOW a tick counts down; at 0 it raises CLOCK and, at button 11, commits the zero-extended SHIFT to
BUTTONS and is idle, else goes to sample the next button. -/
def Obligations.CoreTickRaisesClockAndCommits : Prop :=
  ∀ s : State, s.seq.phase = .clkLow → 1 ≤ s.seq.cnt →
    (coreTick s).seq.cnt = s.seq.cnt - 1 ∧ (coreTick s).seq.shift = s.seq.shift ∧ (coreTick s).latch = s.latch ∧
    (s.seq.cnt ≠ 1 → (coreTick s).seq.phase = .clkLow ∧ (coreTick s).seq.k = s.seq.k ∧
      (coreTick s).clock = s.clock ∧ (coreTick s).buttons = s.buttons) ∧
    (s.seq.cnt = 1 → s.seq.k ≠ 11 → (coreTick s).seq.phase = .sample ∧ (coreTick s).seq.k = s.seq.k + 1 ∧
      (coreTick s).clock = true ∧ (coreTick s).buttons = s.buttons) ∧
    (s.seq.cnt = 1 → s.seq.k = 11 → (coreTick s).seq.phase = .idle ∧ (coreTick s).seq.k = 0 ∧
      (coreTick s).clock = true ∧
      (∀ j, (coreTick s).buttons.getLsbD j = (decide (j < 12) && s.seq.shift.getLsbD j)))

/-- R10's three consequences, for a host access followed by a CORE_TICK: a delivery beats the write-1-to-clear of
WAKEF; WIE written 0 drops the event; and a read returns the value before the tick, and the tick is as without it.
That the two of one cycle are this one of the two orders is R10's reading; the model has no step of both at once (log
15). -/
def Obligations.AccessThenTickDeliversOrDrops : Prop :=
  ∀ (s t : State) (d : Byte) (off : Offset),
    (s.wkR2 ≠ s.wkAck → s.wie = true → d.getLsbD 2 = true → exec (.wrStatus d) s = .next t →
      (coreTick t).wakef = true) ∧
    (s.wkR2 ≠ s.wkAck → d.getLsbD 1 = false → exec (.wrWdtctrl d) s = .next t →
      (coreTick t).wakef = s.wakef ∧ (coreTick t).wkAck = s.wkR2 ∧ (coreTick t).wie = false) ∧
    (exec (decodeRead off) s = .next t →
      t.rdata = regRead off s ∧ coreTick t = { coreTick s with rdata := regRead off s })

/-! ### The watchdog tick -/

/-- R87, R89, R90, R91: a WDT_TICK that raises no reset shifts the three synchronisers, acknowledges an arrived kick,
counts or clears RCNT, steps WCNT modulo its period, and toggles W_REQ at an expiry with no wake event in flight;
nothing outside the WDT domain changes. -/
def Obligations.WdtTickMovesItsDomain : Prop :=
  ∀ s : State, ¬ (s.wdt.e2 = true ∧ s.wdt.k2 = s.wdt.kack ∧ s.build.resetWindow ≤ s.wdt.rcnt + 1) →
    wdtTick s = { s with wdt := (wdtTick s).wdt } ∧
    (wdtTick s).wdt.a2 = s.wdt.a1 ∧ (wdtTick s).wdt.a1 = s.wkAck ∧
    (wdtTick s).wdt.k2 = s.wdt.k1 ∧ (wdtTick s).wdt.k1 = s.kkReq ∧
    (wdtTick s).wdt.e2 = s.wdt.e1 ∧ (wdtTick s).wdt.e1 = s.wde ∧
    (wdtTick s).wdt.kack = s.wdt.k2 ∧
    ((s.wdt.e2 = false ∨ s.wdt.k2 ≠ s.wdt.kack) → (wdtTick s).wdt.rcnt = 0) ∧
    ((s.wdt.e2 = true ∧ s.wdt.k2 = s.wdt.kack) → (wdtTick s).wdt.rcnt = s.wdt.rcnt + 1) ∧
    (wdtTick s).wdt.wcnt = (s.wdt.wcnt + 1) % s.build.wakePeriod ∧
    ((wdtTick s).wdt.req ≠ s.wdt.req ↔ ((s.wdt.wcnt + 1) % s.build.wakePeriod = 0 ∧ s.wdt.req = s.wdt.a2))

/-- R90, R127, R139: a WDT_TICK with the watchdog enabled, no kick arriving and the window reached is a full reset and
nothing else, and so is a platform reset: registers and pins read as after power-on, nothing in flight survives, and
the host core starts at its entry point (R119, R141). -/
def Obligations.WatchdogResetIsAFullReset : Prop :=
  ∀ s : State, s.wdt.e2 = true → s.wdt.k2 = s.wdt.kack → s.build.resetWindow ≤ s.wdt.rcnt + 1 →
    ∃ t, takeTurn .wdtTick s = .next t ∧ takeTurn .reset s = .next t ∧
      t.buttons = 0x0000#16 ∧ t.seq = Seq.reset ∧ t.wdt = Wdt.reset ∧
      t.latch = false ∧ t.clock = false ∧ irqWake t = false ∧ wakeAsync t = false ∧ kbusy t = false ∧
      t.wde = false ∧ t.wie = false ∧ t.gie = false ∧ t.sleeping = false ∧ t.otherPend = false ∧
      t.build = s.build ∧ t.vectoredTo = s.build.entryPoint ∧ regRead 0x4#4 t = 0x00#8

/-- R38: after power-on and after every reset each element holds its value of R38, so that STATUS reads 0x00 on the
FAST build and 0x02 on the COMPATIBLE one, and BTN_LO, BTN_HI and WDT_CTRL read 0x00. -/
def Obligations.ResetLeavesTheListedValues : Prop :=
  ∀ s t : State, t = State.reset ∨ t = fullReset s →
    t.buttons = 0x0000#16 ∧
    t.seq.phase = .idle ∧ t.seq.k = 0 ∧ t.seq.cnt = 0 ∧ t.seq.shift = 0x000#12 ∧
    t.latch = false ∧ t.clock = false ∧ t.dsync1 = false ∧ t.dsync2 = false ∧
    t.wakef = false ∧ t.wde = false ∧ t.wie = false ∧
    t.wkR1 = false ∧ t.wkR2 = false ∧ t.wkAck = false ∧ t.kkReq = false ∧ t.kkA1 = false ∧ t.kkA2 = false ∧
    t.wdt.req = false ∧ t.wdt.a1 = false ∧ t.wdt.a2 = false ∧ t.wdt.k1 = false ∧ t.wdt.k2 = false ∧
    t.wdt.kack = false ∧ t.wdt.e1 = false ∧ t.wdt.e2 = false ∧ t.wdt.wcnt = 0 ∧ t.wdt.rcnt = 0 ∧
    t.gie = false ∧ t.sleeping = false ∧ t.otherPend = false ∧
    (t.build.profile = .fast → regRead 0x1#4 t = 0x00#8) ∧
    (t.build.profile = .compatible → regRead 0x1#4 t = 0x02#8) ∧
    regRead 0x2#4 t = 0x00#8 ∧ regRead 0x3#4 t = 0x00#8 ∧ regRead 0x4#4 t = 0x00#8

/-! ### Invariants that every step keeps -/

/-- R40 items 1 to 3 and the pin levels of each phase are kept by every step of every agent. -/
def Obligations.EveryStepKeepsTheReader : Prop :=
  ∀ s t : State, s.build.Legal → ReaderOk s → step s = .next t → ReaderOk t

/-- R95: every step keeps at most one wake event in flight. -/
def Obligations.EveryStepKeepsOneWakeInFlight : Prop :=
  ∀ s t : State, WakeOk s → step s = .next t → WakeOk t

/-- R96, R40 item 6: every step keeps at most one kick in flight. -/
def Obligations.EveryStepKeepsOneKickInFlight : Prop :=
  ∀ s t : State, KickOk s → step s = .next t → KickOk t

/-- R40 item 8, R32: every step keeps the watchdog domain: its enable crosses as a rising level, RCNT counts only while
enabled, and both counters stay within bounds. -/
def Obligations.EveryStepKeepsTheWatchdog : Prop :=
  ∀ s t : State, s.build.Legal → WdtOk s → step s = .next t → WdtOk t

/-- R80: every step keeps the reference controller's output position within 0 to 12, and shows its current inputs from
the first while LATCH is 1. Where a controller just attached stands is the model's choice (log 6). -/
def Obligations.EveryStepKeepsTheController : Prop :=
  ∀ s t : State, ControllerOk s → step s = .next t → ControllerOk t

/-- The invariants hold at power-on, for the build of this hardware, whatever its open parameters. -/
def Obligations.PowerOnMeetsTheInvariants : Prop :=
  State.reset.build.Legal ∧ State.reset.build.profile = .fast ∧
  ReaderOk State.reset ∧ WakeOk State.reset ∧ KickOk State.reset ∧ WdtOk State.reset ∧ ControllerOk State.reset

/-- R6: no step changes a parameter of the build. -/
def Obligations.NoStepChangesTheBuild : Prop :=
  ∀ s t : State, step s = .next t → t.build = s.build

/-! ### What a step can change -/

/-- R40 items 5 and 6: a step that toggles W_REQ finds no wake event in flight, and a step that toggles KK_REQ no kick,
unless it resets the machine. -/
def Obligations.RequestsToggleOnlyWhenAcknowledged : Prop :=
  ∀ s t : State, step s = .next t → ¬ Resets (nextTurn s) s →
    (t.wdt.req ≠ s.wdt.req → s.wdt.req = s.wdt.a2) ∧ (t.kkReq ≠ s.kkReq → s.kkReq = s.kkA2)

/-- R40 item 7, R23: once 1, WDE stays 1 in every step that does not reset the machine. -/
def Obligations.WdeStaysSetUntilReset : Prop :=
  ∀ s t : State, step s = .next t → ¬ Resets (nextTurn s) s → s.wde = true → t.wde = true

/-- R25, R48: BUTTONS changes only in the CORE_TICK that commits a read, all bits at once and from SHIFT, or in a
reset. -/
def Obligations.ButtonsHaveOneWriter : Prop :=
  ∀ s t : State, step s = .next t → t.buttons ≠ s.buttons →
    Resets (nextTurn s) s ∨
    (nextTurn s = .coreTick ∧ s.seq.phase = .clkLow ∧ s.seq.k = 11 ∧ s.seq.cnt ≤ 1 ∧
      t.buttons = s.seq.shift.zeroExtend 16 ∧ t.seq.phase = .idle)

/-- R27: LATCH and CLOCK change only at a START that finds the sequencer idle, at a CORE_TICK of a read in progress, or
in a reset. -/
def Obligations.PinsMoveOnlyInARead : Prop :=
  ∀ s t : State, step s = .next t → (t.latch ≠ s.latch ∨ t.clock ≠ s.clock) →
    Resets (nextTurn s) s ∨
    (nextTurn s = .coreTick ∧ s.seq.phase ≠ .idle) ∨
    (nextTurn s = .host ∧ s.seq.phase = .idle ∧ t.seq.phase = .latchHold ∧ t.latch = true ∧ t.clock = true)

/-- R29, R92, R95: WAKEF is set only by a CORE_TICK that delivers an arrived event while WIE is 1, and that tick clears
WIE, so it is set at most once per arming. -/
def Obligations.WakefIsSetOnlyByAnArmedDelivery : Prop :=
  ∀ s t : State, step s = .next t → s.wakef = false → t.wakef = true →
    nextTurn s = .coreTick ∧ s.wkR2 ≠ s.wkAck ∧ s.wie = true ∧ t.wie = false

/-! ### Sleep -/

/-- R112, R149: asleep with GIE = 0 the core stays so in every step that does not reset the machine. That its next
operation is still waiting, a HOST turn which is not enabled having passed, is the model's choice (log 10). -/
def Obligations.StuckSleepEndsOnlyByReset : Prop :=
  ∀ s t : State, Stuck s → step s = .next t → ¬ Resets (nextTurn s) s →
    Stuck t ∧ t.prog = s.prog ∧ t.rdata = s.rdata

/-- R148, R111, R113: with a wake pending and GIE = 0, SEI lets it be taken at once, and the SLEEP that follows finds
nothing pending and WIE as it was; SEI_SLEEP instead sleeps and is woken by it. -/
def Obligations.SeiThenSleepMissesTheWake : Prop :=
  ∀ s : State, s.gie = false → s.sleeping = false → s.wakef = true → s.otherPend = false →
    (∃ a b, exec .sei s = .next a ∧ hostEnabled a = false ∧ exec .sleep (irqTurn a) = .next b ∧
      hostEnabled (irqTurn a) = true ∧ b.sleeping = true ∧ irqEnabled b = false ∧ b.wie = s.wie) ∧
    (∃ a, exec .seiSleep s = .next a ∧ irqEnabled a = true ∧
      (irqTurn a).sleeping = false ∧ (irqTurn a).wakef = false ∧ (irqTurn a).gie = true ∧
      hostEnabled (irqTurn a) = true)

/-- R136: in a step of a sleeping core that is neither a tick, nor an interrupt, nor a reset, no element of the block
changes: only the environment's own elements can. -/
def Obligations.SleepKeepsTheBlock : Prop :=
  ∀ s t : State, s.sleeping = true → step s = .next t → ¬ Resets (nextTurn s) s →
    nextTurn s ≠ .coreTick → nextTurn s ≠ .wdtTick → nextTurn s ≠ .irq →
    t = { s with
      otherPend := t.otherPend, dataPin := t.dataPin, controller := t.controller
      turns := t.turns, draws := t.draws }

/-! ### Several ticks -/

/-- R158, R69, R71, R76, R145: from a START, a read with any DATA levels is busy until core tick 13 S + 12, which
commits it: bit k of BUTTONS is the inverse of `DSYNC[2]` before tick S + 1 + k (S + 1), and, with no reference
controller, of the pin two ticks before that; whatever was read before. Within the read here fall only CORE_TICKs and
changes of the pin. -/
def Obligations.AReadCommitsItsTwelveSamples : Prop :=
  ∀ (s t : State) (ds : List Bool), s.build.Legal → s.seq.phase = .idle →
    exec .wrCmdStart s = .next t → ds.length = commitAt s.build.settleCycles →
    (∀ n, n < ds.length →
      (dataTicks (ds.take n) t).seq.phase ≠ .idle ∧ (dataTicks (ds.take n) t).buttons = s.buttons) ∧
    (dataTicks ds t).seq.phase = .idle ∧ (dataTicks ds t).latch = false ∧ (dataTicks ds t).clock = true ∧
    (∀ k, k < 12 → (dataTicks ds t).buttons.getLsbD k
      = !(dataTicks (ds.take (sampleAt s.build.settleCycles k - 1)) t).dsync2) ∧
    (s.controller = none → ∀ k, k < 12 →
      (dataTicks ds t).buttons.getLsbD k = !ds.getD (sampleAt s.build.settleCycles k - 3) true) ∧
    (dataTicks ds t).buttons.extractLsb' 12 4 = 0#4

/-- R69: the pin trace of one read: LATCH is 1 for the first S ticks after a START, and CLOCK is 0 exactly from each
sample tick to the rise S ticks later, twelve times. -/
def Obligations.PinTraceOfOneRead : Prop :=
  ∀ (s t : State) (n : Nat), s.build.Legal → s.seq.phase = .idle → exec .wrCmdStart s = .next t →
    n ≤ commitAt s.build.settleCycles →
    ((coreTicks n t).latch = true ↔ n < s.build.settleCycles) ∧
    ((coreTicks n t).clock = false ↔
      ∃ k, k < 12 ∧ sampleAt s.build.settleCycles k ≤ n ∧ n < riseAt s.build.settleCycles k) ∧
    ((coreTicks n t).seq.phase = .idle ↔ n = commitAt s.build.settleCycles)

/-- R81, R80: against a reference controller that answers within `T_RESP <= S - 1` ticks, and whose inputs do not move
during the read, a read commits exactly the buttons pressed there, whatever the pin shows while unsettled: the levels
`ds` stand for `draw()` (log 5). -/
def Obligations.SettledControllerIsReadExactly : Prop :=
  ∀ (s t : State) (r : Controller) (ds : List Bool), s.build.Legal → s.build.tResp + 1 ≤ s.build.settleCycles →
    s.seq.phase = .idle → s.controller = some r → exec .wrCmdStart s = .next t →
    ds.length = commitAt s.build.settleCycles →
    (dataTicks ds t).seq.phase = .idle ∧ (dataTicks ds t).buttons = (~~~ r.wire).zeroExtend 16

/-- R97, R153: with WDE just set and no kick in flight, WDT ticks 1 and 2 count nothing, and the watchdog first expires
at WDT tick RESET_WINDOW + 2. -/
def Obligations.WatchdogFiresAtWindowPlusTwo : Prop :=
  ∀ (s : State) (n : Nat), s.build.Legal → s.wde = true → s.wdt.e1 = false → s.wdt.e2 = false → s.wdt.rcnt = 0 →
    s.kkReq = s.wdt.k1 → s.wdt.k1 = s.wdt.k2 → s.wdt.k2 = s.wdt.kack → n ≤ s.build.resetWindow + 1 →
    (watchdogExpires (wdtTicks n s) = true ↔ n = s.build.resetWindow + 1) ∧ (wdtTicks n s).wdt.rcnt = n - 2

/-- R101: a kick that departs with the handshake at rest arrives at WDT tick 3 and not before: that tick clears RCNT
and acknowledges, if the window is not over before it. -/
def Obligations.KickArrivesAtTheThirdTick : Prop :=
  ∀ (s t : State), s.kkReq = s.kkA2 → s.wdt.k1 = s.kkReq → s.wdt.k2 = s.kkReq → s.wdt.kack = s.kkReq →
    s.wdt.rcnt + 2 < s.build.resetWindow → exec .wrCmdKick s = .next t →
    kickArrives t = false ∧ kickArrives (wdtTicks 1 t) = false ∧ kickArrives (wdtTicks 2 t) = true ∧
    (wdtTicks 3 t).wdt.rcnt = 0 ∧ (wdtTicks 3 t).wdt.kack = t.kkReq ∧
    kbusy (wdtTicks 3 t) = true ∧ (s.kkA1 = s.kkA2 → kbusy (coreTicks 1 (wdtTicks 3 t)) = true) ∧
    kbusy (coreTicks 2 (wdtTicks 3 t)) = false

/-- R98: a wake event that has just departed is delivered, or dropped if not armed, by the third CORE_TICK after it and
not before. -/
def Obligations.WakeArrivesAtTheThirdTick : Prop :=
  ∀ s : State, s.wkR1 ≠ s.wdt.req → s.wkR2 = s.wkR1 → s.wkAck = s.wkR1 →
    wakeArrives s = false ∧ wakeArrives (coreTicks 1 s) = false ∧ wakeArrives (coreTicks 2 s) = true ∧
    (coreTicks 3 s).wkAck = s.wdt.req ∧ (coreTicks 3 s).wie = false ∧
    (coreTicks 2 s).wakef = s.wakef ∧ (coreTicks 2 s).wie = s.wie ∧
    (coreTicks 3 s).wakef = (s.wakef || s.wie) ∧ (s.wie = true → wakeAsync (coreTicks 2 s) = true) ∧
    wakeAsync (coreTicks 3 s) = false

/-! ### Runs -/

/-- R11, R70: in a run where CORE_TICK is weakly fair and always owed, every read in progress comes to an end, whatever
the other agents do. What weakly fair means is read from R11 by inference (log 12). -/
def Obligations.FairRunsEndEveryRead : Prop :=
  ∀ (sched : Nat → Turn) (run : Nat → State) (n : Nat), IsRun sched run →
    WeaklyFair sched run .coreTick coreTickOwed → (run n).build.Legal → ReaderOk (run n) →
    (∀ m, n ≤ m → coreTickOwed (run m)) → ∃ m, n ≤ m ∧ (run m).seq.phase = .idle

/-- R90, R127, R151: in a run where WDT_TICK is weakly fair, WDE is 1, and from some point on no kick departs until a
reset, the machine is reset, whatever the other agents do. What weakly fair means is read from R11 by inference
(log 12). -/
def Obligations.AStalledHostIsReset : Prop :=
  ∀ (sched : Nat → Turn) (run : Nat → State) (n : Nat), IsRun sched run →
    WeaklyFair sched run .wdtTick (fun _ => True) → (run n).build.Legal → (run n).wde = true →
    (∀ m, n ≤ m → (∀ j, n ≤ j → j < m → ¬ Resets (sched j) (run j)) → (run m).kkReq = (run n).kkReq) →
    ∃ m, n ≤ m ∧ Resets (sched m) (run m)

/-! ### More of the host program, the environment and sleep -/

/-- An access of a width other than one byte is refused if any of its bytes lies in the window, also one that starts
below BASE; one of 0 bytes counts as touching its own address; and an access that touches no byte of the window changes
nothing. R42 and R45 give the widths at an address of the window; the rest is the model's choice (log 17). -/
def Obligations.AccessesReachingTheWindowAreRefused : Prop :=
  ∀ (a : BusAccess) (s : State),
    (a.bytes ≠ 1 → a.addr < s.build.base + 16 → s.build.base < a.addr + max a.bytes 1 →
      runAccess a s = .refused (.accessWidth a.bytes)) ∧
    ((s.build.base + 16 ≤ a.addr ∨ a.addr + max a.bytes 1 ≤ s.build.base) → runAccess a s = .next s)

/-- R65, R120: after its START, the poll loop of READ_CONTROLLER reads STATUS and goes round while BUSY reads 1,
changing nothing but what the host was returned; and once the read is over, three HOST turns read STATUS with BUSY =
0, BTN_LO and BTN_HI, and `{hi, lo}` is BUTTONS. The returned bytes are seen in the model's own field `rdata` (log 3).
-/
def Obligations.ReadControllerPollsAndReturnsButtons : Prop :=
  ∀ (s : State) (ts : List Turn) (rest : List Request), hostEnabled s = true →
    s.prog = (expandPseudo .readController).tail ++ rest →
    (s.turns = .host :: ts → s.seq.phase ≠ .idle →
      step s = .next { s with turns := ts, rdata := regRead 0x1#4 s } ∧ (regRead 0x1#4 s).getLsbD 0 = true) ∧
    (s.turns = .host :: .host :: .host :: ts → s.seq.phase = .idle →
      ∃ a b c, step s = .next a ∧ step a = .next b ∧ step b = .next c ∧
        a.rdata.getLsbD 0 = false ∧ controllerValue c.rdata b.rdata = s.buttons ∧
        c = { s with turns := ts, prog := rest, rdata := c.rdata })

/-- R136, R128: a sleeping core is woken only by an IRQ step, which takes a pending interrupt with GIE = 1, or by a
reset. -/
def Obligations.SleepEndsOnlyByInterruptOrReset : Prop :=
  ∀ s t : State, s.sleeping = true → step s = .next t → t.sleeping = false →
    Resets (nextTurn s) s ∨
    (nextTurn s = .irq ∧ s.gie = true ∧ (s.wakef = true ∨ s.otherPend = true) ∧ t.gie = true)

/-- R79, R117, R80: an ENV turn sets the DATA pin, raises OTHER_PEND, or moves the reference controller's inputs, awake
or asleep, and leaves every other element as it was. Where a controller just attached stands, what REF.SNAP it has and
its response count are the model's choice (log 6). -/
def Obligations.EnvironmentTurnsMoveOnlyTheEnvironment : Prop :=
  ∀ s : State,
    (∀ level, nextTurn s = .data level → step s = .next { popTurn s with dataPin := level }) ∧
    (nextTurn s = .other → step s = .next { popTurn s with otherPend := true }) ∧
    (nextTurn s = .controller none → step s = .next { popTurn s with controller := none }) ∧
    (∀ (w : Buttons) (r : Controller), nextTurn s = .controller (some w) → s.controller = some r →
      step s = .next { popTurn s with
        controller := some { r with wire := w, snap := if s.latch = true then w else r.snap } }) ∧
    (∀ w : Buttons, nextTurn s = .controller (some w) → s.controller = none →
      step s = .next { popTurn s with
        controller := some { wire := w, snap := w, pos := if s.latch = true then 0 else 12, age := 0 } })
end

