-- ==== Sys2Proof/Laws/Encoding.lean ====
section
/-! SUPPORT. The fields of a word and the words of the two formats: each read back from the other, and a word told by
its fields. -/

namespace Sys2Proof

/-- A word of format B, bit by bit. -/
theorem formatB_getLsbD (c : BitVec 2) (o : Offset) (d : Byte) (i : Nat) :
    (formatB c o d).getLsbD i =
      if i < 8 then d.getLsbD i else if i < 12 then o.getLsbD (i - 8)
      else if i < 14 then false else c.getLsbD (i - 14) := by
  have h1 := @BitVec.getLsbD_append (2 + 2 + 4) 8 i (c ++ 0#2 ++ o) d
  have h2 := @BitVec.getLsbD_append (2 + 2) 4 (i - 8) (c ++ 0#2) o
  have h3 := @BitVec.getLsbD_append 2 2 (i - 8 - 4) c 0#2
  rw [h2, h3] at h1
  refine Eq.trans h1 ?_
  by_cases a : i < 8
  · simp [a]
  · by_cases b : i < 12
    · have : i - 8 < 4 := by omega
      simp [a, b, this]
    · have hb : ¬ i - 8 < 4 := by omega
      by_cases e : i < 14
      · have : i - 8 - 4 < 2 := by omega
        simp [a, b, hb, e, this]
      · have : ¬ i - 8 - 4 < 2 := by omega
        have h : i - 8 - 4 - 2 = i - 14 := by omega
        simp [a, b, hb, e, this, h]

/-- A word of format C, bit by bit. -/
theorem formatC_getLsbD (p : Byte) (i : Nat) :
    (formatC p).getLsbD i = if i < 8 then p.getLsbD i else decide (i = 15) := by
  have h1 := @BitVec.getLsbD_append (2 + 6) 8 i (2#2 ++ 0#6) p
  refine Eq.trans h1 ?_
  by_cases a : i < 8
  · simp [a]
  · simp only [a, if_false]
    by_cases b : i < 16
    · have : i = 8 ∨ i = 9 ∨ i = 10 ∨ i = 11 ∨ i = 12 ∨ i = 13 ∨ i = 14 ∨ i = 15 := by omega
      rcases this with rfl | rfl | rfl | rfl | rfl | rfl | rfl | rfl <;> decide
    · rw [BitVec.getLsbD_of_ge _ _ (by omega)]
      simp
      omega

@[simp] theorem wordCls_formatB (c : BitVec 2) (o : Offset) (d : Byte) : wordCls (formatB c o d) = c := by
  apply BitVec.eq_of_getLsbD_eq
  intro i hi
  have h8 : ¬ 14 + i < 8 := by omega
  have h12 : ¬ 14 + i < 12 := by omega
  simp [wordCls, hi, formatB_getLsbD, h8, h12]

@[simp] theorem wordRsvB_formatB (c : BitVec 2) (o : Offset) (d : Byte) : wordRsvB (formatB c o d) = 0#2 := by
  apply BitVec.eq_of_getLsbD_eq
  intro i hi
  have h8 : ¬ 12 + i < 8 := by omega
  simp [wordRsvB, formatB_getLsbD, h8, show 12 + i < 14 by omega]

@[simp] theorem wordOff_formatB (c : BitVec 2) (o : Offset) (d : Byte) : wordOff (formatB c o d) = o := by
  apply BitVec.eq_of_getLsbD_eq
  intro i hi
  have h : 8 + i < 12 := by omega
  simp [wordOff, formatB_getLsbD, h, hi]

@[simp] theorem wordData_formatB (c : BitVec 2) (o : Offset) (d : Byte) : wordData (formatB c o d) = d := by
  apply BitVec.eq_of_getLsbD_eq
  intro i hi
  simp [wordData, formatB_getLsbD, hi]

/-- A word with no reserved bit of format B set is the format B word of its fields. -/
theorem word_of_fieldsB (w : Word) (h : wordRsvB w = 0#2) : w = formatB (wordCls w) (wordOff w) (wordData w) := by
  apply BitVec.eq_of_getLsbD_eq
  intro i hi
  rw [formatB_getLsbD]
  split
  · simp [wordData, *]
  · split
    · have e : 8 + (i - 8) = i := by omega
      have : i - 8 < 4 := by omega
      simp [wordOff, e, this]
    · split
      · have e : 12 + (i - 12) = i := by omega
        have l : i - 12 < 2 := by omega
        have := congrArg (fun v => v.getLsbD (i - 12)) h
        simpa [wordRsvB, BitVec.getLsbD_extractLsb', e, l] using this
      · have e : 14 + (i - 14) = i := by omega
        have : i - 14 < 2 := by omega
        simp [wordCls, e, this]

/-- A word of class 10 with no reserved bit of format C set is the format C word of its PRIM. -/
theorem word_of_fieldsC (w : Word) (hc : wordCls w = 0b10#2) (hr : wordRsvC w = 0#6) : w = formatC (wordData w) := by
  apply BitVec.eq_of_getLsbD_eq
  intro i hi
  rw [formatC_getLsbD]
  split
  · simp [wordData, *]
  · by_cases l : i < 14
    · have e : 8 + (i - 8) = i := by omega
      have l6 : i - 8 < 6 := by omega
      have := congrArg (fun v => v.getLsbD (i - 8)) hr
      have ne : i ≠ 15 := by omega
      simpa [wordRsvC, BitVec.getLsbD_extractLsb', e, l6, ne] using this
    · have : i = 14 ∨ i = 15 := by omega
      have c0 := congrArg (fun v => v.getLsbD 0) hc
      have c1 := congrArg (fun v => v.getLsbD 1) hc
      rcases this with rfl | rfl
      · simpa [wordCls, BitVec.getLsbD_extractLsb'] using c0
      · simpa [wordCls, BitVec.getLsbD_extractLsb'] using c1

/-- A read's word decodes to the read of its offset. -/
theorem decode_encodeRead (off : Offset) : decode (encodeRead off) = .ok (decodeRead off) := by
  simp [decode, encodeRead]

/-- A write's word decodes to the write of its byte at its offset. -/
theorem decode_encodeWrite (off : Offset) (data : Byte) : decode (encodeWrite off data) = .ok (decodeWrite off data) := by
  simp [decode, encodeWrite]

end Sys2Proof
end

