-- ==== Sys2Proof/Laws/State.lean ====
section
/-! SUPPORT. What each named operation makes of each field of the state: one lemma a field and operation, so that no
later proof unfolds a record update. -/

namespace Sys2Proof.Machine

/-! `returnByte` -/

@[simp] theorem returnByte_build (v : Byte) (s : State) : (returnByte v s).build = s.build := rfl
@[simp] theorem returnByte_buttons (v : Byte) (s : State) : (returnByte v s).buttons = s.buttons := rfl
@[simp] theorem returnByte_seq (v : Byte) (s : State) : (returnByte v s).seq = s.seq := rfl
@[simp] theorem returnByte_latch (v : Byte) (s : State) : (returnByte v s).latch = s.latch := rfl
@[simp] theorem returnByte_clock (v : Byte) (s : State) : (returnByte v s).clock = s.clock := rfl
@[simp] theorem returnByte_dsync1 (v : Byte) (s : State) : (returnByte v s).dsync1 = s.dsync1 := rfl
@[simp] theorem returnByte_dsync2 (v : Byte) (s : State) : (returnByte v s).dsync2 = s.dsync2 := rfl
@[simp] theorem returnByte_wakef (v : Byte) (s : State) : (returnByte v s).wakef = s.wakef := rfl
@[simp] theorem returnByte_wde (v : Byte) (s : State) : (returnByte v s).wde = s.wde := rfl
@[simp] theorem returnByte_wie (v : Byte) (s : State) : (returnByte v s).wie = s.wie := rfl
@[simp] theorem returnByte_wkR1 (v : Byte) (s : State) : (returnByte v s).wkR1 = s.wkR1 := rfl
@[simp] theorem returnByte_wkR2 (v : Byte) (s : State) : (returnByte v s).wkR2 = s.wkR2 := rfl
@[simp] theorem returnByte_wkAck (v : Byte) (s : State) : (returnByte v s).wkAck = s.wkAck := rfl
@[simp] theorem returnByte_kkReq (v : Byte) (s : State) : (returnByte v s).kkReq = s.kkReq := rfl
@[simp] theorem returnByte_kkA1 (v : Byte) (s : State) : (returnByte v s).kkA1 = s.kkA1 := rfl
@[simp] theorem returnByte_kkA2 (v : Byte) (s : State) : (returnByte v s).kkA2 = s.kkA2 := rfl
@[simp] theorem returnByte_wdt (v : Byte) (s : State) : (returnByte v s).wdt = s.wdt := rfl
@[simp] theorem returnByte_gie (v : Byte) (s : State) : (returnByte v s).gie = s.gie := rfl
@[simp] theorem returnByte_sleeping (v : Byte) (s : State) : (returnByte v s).sleeping = s.sleeping := rfl
@[simp] theorem returnByte_otherPend (v : Byte) (s : State) : (returnByte v s).otherPend = s.otherPend := rfl
@[simp] theorem returnByte_dataPin (v : Byte) (s : State) : (returnByte v s).dataPin = s.dataPin := rfl
@[simp] theorem returnByte_controller (v : Byte) (s : State) : (returnByte v s).controller = s.controller := rfl
@[simp] theorem returnByte_rdata (v : Byte) (s : State) : (returnByte v s).rdata = v := rfl
@[simp] theorem returnByte_vectoredTo (v : Byte) (s : State) : (returnByte v s).vectoredTo = s.vectoredTo := rfl
@[simp] theorem returnByte_prog (v : Byte) (s : State) : (returnByte v s).prog = s.prog := rfl
@[simp] theorem returnByte_turns (v : Byte) (s : State) : (returnByte v s).turns = s.turns := rfl
@[simp] theorem returnByte_draws (v : Byte) (s : State) : (returnByte v s).draws = s.draws := rfl

/-! `ignoreWrite` -/

@[simp] theorem ignoreWrite_build (v : Byte) (s : State) : (ignoreWrite v s).build = s.build := rfl
@[simp] theorem ignoreWrite_buttons (v : Byte) (s : State) : (ignoreWrite v s).buttons = s.buttons := rfl
@[simp] theorem ignoreWrite_seq (v : Byte) (s : State) : (ignoreWrite v s).seq = s.seq := rfl
@[simp] theorem ignoreWrite_latch (v : Byte) (s : State) : (ignoreWrite v s).latch = s.latch := rfl
@[simp] theorem ignoreWrite_clock (v : Byte) (s : State) : (ignoreWrite v s).clock = s.clock := rfl
@[simp] theorem ignoreWrite_dsync1 (v : Byte) (s : State) : (ignoreWrite v s).dsync1 = s.dsync1 := rfl
@[simp] theorem ignoreWrite_dsync2 (v : Byte) (s : State) : (ignoreWrite v s).dsync2 = s.dsync2 := rfl
@[simp] theorem ignoreWrite_wakef (v : Byte) (s : State) : (ignoreWrite v s).wakef = s.wakef := rfl
@[simp] theorem ignoreWrite_wde (v : Byte) (s : State) : (ignoreWrite v s).wde = s.wde := rfl
@[simp] theorem ignoreWrite_wie (v : Byte) (s : State) : (ignoreWrite v s).wie = s.wie := rfl
@[simp] theorem ignoreWrite_wkR1 (v : Byte) (s : State) : (ignoreWrite v s).wkR1 = s.wkR1 := rfl
@[simp] theorem ignoreWrite_wkR2 (v : Byte) (s : State) : (ignoreWrite v s).wkR2 = s.wkR2 := rfl
@[simp] theorem ignoreWrite_wkAck (v : Byte) (s : State) : (ignoreWrite v s).wkAck = s.wkAck := rfl
@[simp] theorem ignoreWrite_kkReq (v : Byte) (s : State) : (ignoreWrite v s).kkReq = s.kkReq := rfl
@[simp] theorem ignoreWrite_kkA1 (v : Byte) (s : State) : (ignoreWrite v s).kkA1 = s.kkA1 := rfl
@[simp] theorem ignoreWrite_kkA2 (v : Byte) (s : State) : (ignoreWrite v s).kkA2 = s.kkA2 := rfl
@[simp] theorem ignoreWrite_wdt (v : Byte) (s : State) : (ignoreWrite v s).wdt = s.wdt := rfl
@[simp] theorem ignoreWrite_gie (v : Byte) (s : State) : (ignoreWrite v s).gie = s.gie := rfl
@[simp] theorem ignoreWrite_sleeping (v : Byte) (s : State) : (ignoreWrite v s).sleeping = s.sleeping := rfl
@[simp] theorem ignoreWrite_otherPend (v : Byte) (s : State) : (ignoreWrite v s).otherPend = s.otherPend := rfl
@[simp] theorem ignoreWrite_dataPin (v : Byte) (s : State) : (ignoreWrite v s).dataPin = s.dataPin := rfl
@[simp] theorem ignoreWrite_controller (v : Byte) (s : State) : (ignoreWrite v s).controller = s.controller := rfl
@[simp] theorem ignoreWrite_rdata (v : Byte) (s : State) : (ignoreWrite v s).rdata = s.rdata := rfl
@[simp] theorem ignoreWrite_vectoredTo (v : Byte) (s : State) : (ignoreWrite v s).vectoredTo = s.vectoredTo := rfl
@[simp] theorem ignoreWrite_prog (v : Byte) (s : State) : (ignoreWrite v s).prog = s.prog := rfl
@[simp] theorem ignoreWrite_turns (v : Byte) (s : State) : (ignoreWrite v s).turns = s.turns := rfl
@[simp] theorem ignoreWrite_draws (v : Byte) (s : State) : (ignoreWrite v s).draws = s.draws := rfl

/-! `drivePins` -/

@[simp] theorem drivePins_build (l c : Bool) (s : State) : (drivePins l c s).build = s.build := rfl
@[simp] theorem drivePins_buttons (l c : Bool) (s : State) : (drivePins l c s).buttons = s.buttons := rfl
@[simp] theorem drivePins_seq (l c : Bool) (s : State) : (drivePins l c s).seq = s.seq := rfl
@[simp] theorem drivePins_latch (l c : Bool) (s : State) : (drivePins l c s).latch = l := rfl
@[simp] theorem drivePins_clock (l c : Bool) (s : State) : (drivePins l c s).clock = c := rfl
@[simp] theorem drivePins_dsync1 (l c : Bool) (s : State) : (drivePins l c s).dsync1 = s.dsync1 := rfl
@[simp] theorem drivePins_dsync2 (l c : Bool) (s : State) : (drivePins l c s).dsync2 = s.dsync2 := rfl
@[simp] theorem drivePins_wakef (l c : Bool) (s : State) : (drivePins l c s).wakef = s.wakef := rfl
@[simp] theorem drivePins_wde (l c : Bool) (s : State) : (drivePins l c s).wde = s.wde := rfl
@[simp] theorem drivePins_wie (l c : Bool) (s : State) : (drivePins l c s).wie = s.wie := rfl
@[simp] theorem drivePins_wkR1 (l c : Bool) (s : State) : (drivePins l c s).wkR1 = s.wkR1 := rfl
@[simp] theorem drivePins_wkR2 (l c : Bool) (s : State) : (drivePins l c s).wkR2 = s.wkR2 := rfl
@[simp] theorem drivePins_wkAck (l c : Bool) (s : State) : (drivePins l c s).wkAck = s.wkAck := rfl
@[simp] theorem drivePins_kkReq (l c : Bool) (s : State) : (drivePins l c s).kkReq = s.kkReq := rfl
@[simp] theorem drivePins_kkA1 (l c : Bool) (s : State) : (drivePins l c s).kkA1 = s.kkA1 := rfl
@[simp] theorem drivePins_kkA2 (l c : Bool) (s : State) : (drivePins l c s).kkA2 = s.kkA2 := rfl
@[simp] theorem drivePins_wdt (l c : Bool) (s : State) : (drivePins l c s).wdt = s.wdt := rfl
@[simp] theorem drivePins_gie (l c : Bool) (s : State) : (drivePins l c s).gie = s.gie := rfl
@[simp] theorem drivePins_sleeping (l c : Bool) (s : State) : (drivePins l c s).sleeping = s.sleeping := rfl
@[simp] theorem drivePins_otherPend (l c : Bool) (s : State) : (drivePins l c s).otherPend = s.otherPend := rfl
@[simp] theorem drivePins_dataPin (l c : Bool) (s : State) : (drivePins l c s).dataPin = s.dataPin := rfl
@[simp] theorem drivePins_controller (l c : Bool) (s : State) : (drivePins l c s).controller = s.controller.map (Controller.observe s.latch s.clock l c) := rfl
@[simp] theorem drivePins_rdata (l c : Bool) (s : State) : (drivePins l c s).rdata = s.rdata := rfl
@[simp] theorem drivePins_vectoredTo (l c : Bool) (s : State) : (drivePins l c s).vectoredTo = s.vectoredTo := rfl
@[simp] theorem drivePins_prog (l c : Bool) (s : State) : (drivePins l c s).prog = s.prog := rfl
@[simp] theorem drivePins_turns (l c : Bool) (s : State) : (drivePins l c s).turns = s.turns := rfl
@[simp] theorem drivePins_draws (l c : Bool) (s : State) : (drivePins l c s).draws = s.draws := rfl

/-! `startRead` -/

@[simp] theorem startRead_build (s : State) : (startRead s).build = s.build := rfl
@[simp] theorem startRead_buttons (s : State) : (startRead s).buttons = s.buttons := rfl
@[simp] theorem startRead_seq (s : State) : (startRead s).seq = { phase := .latchHold, k := 0, cnt := s.build.settleCycles, shift := 0x000#12 } := rfl
@[simp] theorem startRead_latch (s : State) : (startRead s).latch = true := rfl
@[simp] theorem startRead_clock (s : State) : (startRead s).clock = true := rfl
@[simp] theorem startRead_dsync1 (s : State) : (startRead s).dsync1 = s.dsync1 := rfl
@[simp] theorem startRead_dsync2 (s : State) : (startRead s).dsync2 = s.dsync2 := rfl
@[simp] theorem startRead_wakef (s : State) : (startRead s).wakef = s.wakef := rfl
@[simp] theorem startRead_wde (s : State) : (startRead s).wde = s.wde := rfl
@[simp] theorem startRead_wie (s : State) : (startRead s).wie = s.wie := rfl
@[simp] theorem startRead_wkR1 (s : State) : (startRead s).wkR1 = s.wkR1 := rfl
@[simp] theorem startRead_wkR2 (s : State) : (startRead s).wkR2 = s.wkR2 := rfl
@[simp] theorem startRead_wkAck (s : State) : (startRead s).wkAck = s.wkAck := rfl
@[simp] theorem startRead_kkReq (s : State) : (startRead s).kkReq = s.kkReq := rfl
@[simp] theorem startRead_kkA1 (s : State) : (startRead s).kkA1 = s.kkA1 := rfl
@[simp] theorem startRead_kkA2 (s : State) : (startRead s).kkA2 = s.kkA2 := rfl
@[simp] theorem startRead_wdt (s : State) : (startRead s).wdt = s.wdt := rfl
@[simp] theorem startRead_gie (s : State) : (startRead s).gie = s.gie := rfl
@[simp] theorem startRead_sleeping (s : State) : (startRead s).sleeping = s.sleeping := rfl
@[simp] theorem startRead_otherPend (s : State) : (startRead s).otherPend = s.otherPend := rfl
@[simp] theorem startRead_dataPin (s : State) : (startRead s).dataPin = s.dataPin := rfl
@[simp] theorem startRead_controller (s : State) : (startRead s).controller = s.controller.map (Controller.observe s.latch s.clock true true) := rfl
@[simp] theorem startRead_rdata (s : State) : (startRead s).rdata = s.rdata := rfl
@[simp] theorem startRead_vectoredTo (s : State) : (startRead s).vectoredTo = s.vectoredTo := rfl
@[simp] theorem startRead_prog (s : State) : (startRead s).prog = s.prog := rfl
@[simp] theorem startRead_turns (s : State) : (startRead s).turns = s.turns := rfl
@[simp] theorem startRead_draws (s : State) : (startRead s).draws = s.draws := rfl

/-! `setWires` -/

@[simp] theorem setWires_build (w : Option Buttons) (s : State) : (setWires w s).build = s.build := rfl
@[simp] theorem setWires_buttons (w : Option Buttons) (s : State) : (setWires w s).buttons = s.buttons := rfl
@[simp] theorem setWires_seq (w : Option Buttons) (s : State) : (setWires w s).seq = s.seq := rfl
@[simp] theorem setWires_latch (w : Option Buttons) (s : State) : (setWires w s).latch = s.latch := rfl
@[simp] theorem setWires_clock (w : Option Buttons) (s : State) : (setWires w s).clock = s.clock := rfl
@[simp] theorem setWires_dsync1 (w : Option Buttons) (s : State) : (setWires w s).dsync1 = s.dsync1 := rfl
@[simp] theorem setWires_dsync2 (w : Option Buttons) (s : State) : (setWires w s).dsync2 = s.dsync2 := rfl
@[simp] theorem setWires_wakef (w : Option Buttons) (s : State) : (setWires w s).wakef = s.wakef := rfl
@[simp] theorem setWires_wde (w : Option Buttons) (s : State) : (setWires w s).wde = s.wde := rfl
@[simp] theorem setWires_wie (w : Option Buttons) (s : State) : (setWires w s).wie = s.wie := rfl
@[simp] theorem setWires_wkR1 (w : Option Buttons) (s : State) : (setWires w s).wkR1 = s.wkR1 := rfl
@[simp] theorem setWires_wkR2 (w : Option Buttons) (s : State) : (setWires w s).wkR2 = s.wkR2 := rfl
@[simp] theorem setWires_wkAck (w : Option Buttons) (s : State) : (setWires w s).wkAck = s.wkAck := rfl
@[simp] theorem setWires_kkReq (w : Option Buttons) (s : State) : (setWires w s).kkReq = s.kkReq := rfl
@[simp] theorem setWires_kkA1 (w : Option Buttons) (s : State) : (setWires w s).kkA1 = s.kkA1 := rfl
@[simp] theorem setWires_kkA2 (w : Option Buttons) (s : State) : (setWires w s).kkA2 = s.kkA2 := rfl
@[simp] theorem setWires_wdt (w : Option Buttons) (s : State) : (setWires w s).wdt = s.wdt := rfl
@[simp] theorem setWires_gie (w : Option Buttons) (s : State) : (setWires w s).gie = s.gie := rfl
@[simp] theorem setWires_sleeping (w : Option Buttons) (s : State) : (setWires w s).sleeping = s.sleeping := rfl
@[simp] theorem setWires_otherPend (w : Option Buttons) (s : State) : (setWires w s).otherPend = s.otherPend := rfl
@[simp] theorem setWires_dataPin (w : Option Buttons) (s : State) : (setWires w s).dataPin = s.dataPin := rfl
@[simp] theorem setWires_rdata (w : Option Buttons) (s : State) : (setWires w s).rdata = s.rdata := rfl
@[simp] theorem setWires_vectoredTo (w : Option Buttons) (s : State) : (setWires w s).vectoredTo = s.vectoredTo := rfl
@[simp] theorem setWires_prog (w : Option Buttons) (s : State) : (setWires w s).prog = s.prog := rfl
@[simp] theorem setWires_turns (w : Option Buttons) (s : State) : (setWires w s).turns = s.turns := rfl
@[simp] theorem setWires_draws (w : Option Buttons) (s : State) : (setWires w s).draws = s.draws := rfl

/-! `setData` -/

@[simp] theorem setData_build (d : Bool) (s : State) : (setData d s).build = s.build := rfl
@[simp] theorem setData_buttons (d : Bool) (s : State) : (setData d s).buttons = s.buttons := rfl
@[simp] theorem setData_seq (d : Bool) (s : State) : (setData d s).seq = s.seq := rfl
@[simp] theorem setData_latch (d : Bool) (s : State) : (setData d s).latch = s.latch := rfl
@[simp] theorem setData_clock (d : Bool) (s : State) : (setData d s).clock = s.clock := rfl
@[simp] theorem setData_dsync1 (d : Bool) (s : State) : (setData d s).dsync1 = s.dsync1 := rfl
@[simp] theorem setData_dsync2 (d : Bool) (s : State) : (setData d s).dsync2 = s.dsync2 := rfl
@[simp] theorem setData_wakef (d : Bool) (s : State) : (setData d s).wakef = s.wakef := rfl
@[simp] theorem setData_wde (d : Bool) (s : State) : (setData d s).wde = s.wde := rfl
@[simp] theorem setData_wie (d : Bool) (s : State) : (setData d s).wie = s.wie := rfl
@[simp] theorem setData_wkR1 (d : Bool) (s : State) : (setData d s).wkR1 = s.wkR1 := rfl
@[simp] theorem setData_wkR2 (d : Bool) (s : State) : (setData d s).wkR2 = s.wkR2 := rfl
@[simp] theorem setData_wkAck (d : Bool) (s : State) : (setData d s).wkAck = s.wkAck := rfl
@[simp] theorem setData_kkReq (d : Bool) (s : State) : (setData d s).kkReq = s.kkReq := rfl
@[simp] theorem setData_kkA1 (d : Bool) (s : State) : (setData d s).kkA1 = s.kkA1 := rfl
@[simp] theorem setData_kkA2 (d : Bool) (s : State) : (setData d s).kkA2 = s.kkA2 := rfl
@[simp] theorem setData_wdt (d : Bool) (s : State) : (setData d s).wdt = s.wdt := rfl
@[simp] theorem setData_gie (d : Bool) (s : State) : (setData d s).gie = s.gie := rfl
@[simp] theorem setData_sleeping (d : Bool) (s : State) : (setData d s).sleeping = s.sleeping := rfl
@[simp] theorem setData_otherPend (d : Bool) (s : State) : (setData d s).otherPend = s.otherPend := rfl
@[simp] theorem setData_dataPin (d : Bool) (s : State) : (setData d s).dataPin = d := rfl
@[simp] theorem setData_controller (d : Bool) (s : State) : (setData d s).controller = s.controller := rfl
@[simp] theorem setData_rdata (d : Bool) (s : State) : (setData d s).rdata = s.rdata := rfl
@[simp] theorem setData_vectoredTo (d : Bool) (s : State) : (setData d s).vectoredTo = s.vectoredTo := rfl
@[simp] theorem setData_prog (d : Bool) (s : State) : (setData d s).prog = s.prog := rfl
@[simp] theorem setData_turns (d : Bool) (s : State) : (setData d s).turns = s.turns := rfl
@[simp] theorem setData_draws (d : Bool) (s : State) : (setData d s).draws = s.draws := rfl

/-! `raiseOther` -/

@[simp] theorem raiseOther_build (s : State) : (raiseOther s).build = s.build := rfl
@[simp] theorem raiseOther_buttons (s : State) : (raiseOther s).buttons = s.buttons := rfl
@[simp] theorem raiseOther_seq (s : State) : (raiseOther s).seq = s.seq := rfl
@[simp] theorem raiseOther_latch (s : State) : (raiseOther s).latch = s.latch := rfl
@[simp] theorem raiseOther_clock (s : State) : (raiseOther s).clock = s.clock := rfl
@[simp] theorem raiseOther_dsync1 (s : State) : (raiseOther s).dsync1 = s.dsync1 := rfl
@[simp] theorem raiseOther_dsync2 (s : State) : (raiseOther s).dsync2 = s.dsync2 := rfl
@[simp] theorem raiseOther_wakef (s : State) : (raiseOther s).wakef = s.wakef := rfl
@[simp] theorem raiseOther_wde (s : State) : (raiseOther s).wde = s.wde := rfl
@[simp] theorem raiseOther_wie (s : State) : (raiseOther s).wie = s.wie := rfl
@[simp] theorem raiseOther_wkR1 (s : State) : (raiseOther s).wkR1 = s.wkR1 := rfl
@[simp] theorem raiseOther_wkR2 (s : State) : (raiseOther s).wkR2 = s.wkR2 := rfl
@[simp] theorem raiseOther_wkAck (s : State) : (raiseOther s).wkAck = s.wkAck := rfl
@[simp] theorem raiseOther_kkReq (s : State) : (raiseOther s).kkReq = s.kkReq := rfl
@[simp] theorem raiseOther_kkA1 (s : State) : (raiseOther s).kkA1 = s.kkA1 := rfl
@[simp] theorem raiseOther_kkA2 (s : State) : (raiseOther s).kkA2 = s.kkA2 := rfl
@[simp] theorem raiseOther_wdt (s : State) : (raiseOther s).wdt = s.wdt := rfl
@[simp] theorem raiseOther_gie (s : State) : (raiseOther s).gie = s.gie := rfl
@[simp] theorem raiseOther_sleeping (s : State) : (raiseOther s).sleeping = s.sleeping := rfl
@[simp] theorem raiseOther_otherPend (s : State) : (raiseOther s).otherPend = true := rfl
@[simp] theorem raiseOther_dataPin (s : State) : (raiseOther s).dataPin = s.dataPin := rfl
@[simp] theorem raiseOther_controller (s : State) : (raiseOther s).controller = s.controller := rfl
@[simp] theorem raiseOther_rdata (s : State) : (raiseOther s).rdata = s.rdata := rfl
@[simp] theorem raiseOther_vectoredTo (s : State) : (raiseOther s).vectoredTo = s.vectoredTo := rfl
@[simp] theorem raiseOther_prog (s : State) : (raiseOther s).prog = s.prog := rfl
@[simp] theorem raiseOther_turns (s : State) : (raiseOther s).turns = s.turns := rfl
@[simp] theorem raiseOther_draws (s : State) : (raiseOther s).draws = s.draws := rfl

/-! `irqEnter` -/

@[simp] theorem irqEnter_build (src : IrqSource) (s : State) : (irqEnter src s).build = s.build := by cases src <;> rfl
@[simp] theorem irqEnter_buttons (src : IrqSource) (s : State) : (irqEnter src s).buttons = s.buttons := by cases src <;> rfl
@[simp] theorem irqEnter_seq (src : IrqSource) (s : State) : (irqEnter src s).seq = s.seq := by cases src <;> rfl
@[simp] theorem irqEnter_latch (src : IrqSource) (s : State) : (irqEnter src s).latch = s.latch := by cases src <;> rfl
@[simp] theorem irqEnter_clock (src : IrqSource) (s : State) : (irqEnter src s).clock = s.clock := by cases src <;> rfl
@[simp] theorem irqEnter_dsync1 (src : IrqSource) (s : State) : (irqEnter src s).dsync1 = s.dsync1 := by cases src <;> rfl
@[simp] theorem irqEnter_dsync2 (src : IrqSource) (s : State) : (irqEnter src s).dsync2 = s.dsync2 := by cases src <;> rfl
@[simp] theorem irqEnter_wde (src : IrqSource) (s : State) : (irqEnter src s).wde = s.wde := by cases src <;> rfl
@[simp] theorem irqEnter_wie (src : IrqSource) (s : State) : (irqEnter src s).wie = s.wie := by cases src <;> rfl
@[simp] theorem irqEnter_wkR1 (src : IrqSource) (s : State) : (irqEnter src s).wkR1 = s.wkR1 := by cases src <;> rfl
@[simp] theorem irqEnter_wkR2 (src : IrqSource) (s : State) : (irqEnter src s).wkR2 = s.wkR2 := by cases src <;> rfl
@[simp] theorem irqEnter_wkAck (src : IrqSource) (s : State) : (irqEnter src s).wkAck = s.wkAck := by cases src <;> rfl
@[simp] theorem irqEnter_kkReq (src : IrqSource) (s : State) : (irqEnter src s).kkReq = s.kkReq := by cases src <;> rfl
@[simp] theorem irqEnter_kkA1 (src : IrqSource) (s : State) : (irqEnter src s).kkA1 = s.kkA1 := by cases src <;> rfl
@[simp] theorem irqEnter_kkA2 (src : IrqSource) (s : State) : (irqEnter src s).kkA2 = s.kkA2 := by cases src <;> rfl
@[simp] theorem irqEnter_wdt (src : IrqSource) (s : State) : (irqEnter src s).wdt = s.wdt := by cases src <;> rfl
@[simp] theorem irqEnter_gie (src : IrqSource) (s : State) : (irqEnter src s).gie = false := by cases src <;> rfl
@[simp] theorem irqEnter_sleeping (src : IrqSource) (s : State) : (irqEnter src s).sleeping = s.sleeping := by cases src <;> rfl
@[simp] theorem irqEnter_dataPin (src : IrqSource) (s : State) : (irqEnter src s).dataPin = s.dataPin := by cases src <;> rfl
@[simp] theorem irqEnter_controller (src : IrqSource) (s : State) : (irqEnter src s).controller = s.controller := by cases src <;> rfl
@[simp] theorem irqEnter_rdata (src : IrqSource) (s : State) : (irqEnter src s).rdata = s.rdata := by cases src <;> rfl
@[simp] theorem irqEnter_vectoredTo (src : IrqSource) (s : State) : (irqEnter src s).vectoredTo
    = if src = .wake then s.build.wakeVector else s.build.otherVector := by cases src <;> rfl
@[simp] theorem irqEnter_prog (src : IrqSource) (s : State) : (irqEnter src s).prog = s.prog := by cases src <;> rfl
@[simp] theorem irqEnter_turns (src : IrqSource) (s : State) : (irqEnter src s).turns = s.turns := by cases src <;> rfl
@[simp] theorem irqEnter_draws (src : IrqSource) (s : State) : (irqEnter src s).draws = s.draws := by cases src <;> rfl

/-! `irqReturn` -/

@[simp] theorem irqReturn_build (s : State) : (irqReturn s).build = s.build := rfl
@[simp] theorem irqReturn_buttons (s : State) : (irqReturn s).buttons = s.buttons := rfl
@[simp] theorem irqReturn_seq (s : State) : (irqReturn s).seq = s.seq := rfl
@[simp] theorem irqReturn_latch (s : State) : (irqReturn s).latch = s.latch := rfl
@[simp] theorem irqReturn_clock (s : State) : (irqReturn s).clock = s.clock := rfl
@[simp] theorem irqReturn_dsync1 (s : State) : (irqReturn s).dsync1 = s.dsync1 := rfl
@[simp] theorem irqReturn_dsync2 (s : State) : (irqReturn s).dsync2 = s.dsync2 := rfl
@[simp] theorem irqReturn_wakef (s : State) : (irqReturn s).wakef = s.wakef := rfl
@[simp] theorem irqReturn_wde (s : State) : (irqReturn s).wde = s.wde := rfl
@[simp] theorem irqReturn_wie (s : State) : (irqReturn s).wie = s.wie := rfl
@[simp] theorem irqReturn_wkR1 (s : State) : (irqReturn s).wkR1 = s.wkR1 := rfl
@[simp] theorem irqReturn_wkR2 (s : State) : (irqReturn s).wkR2 = s.wkR2 := rfl
@[simp] theorem irqReturn_wkAck (s : State) : (irqReturn s).wkAck = s.wkAck := rfl
@[simp] theorem irqReturn_kkReq (s : State) : (irqReturn s).kkReq = s.kkReq := rfl
@[simp] theorem irqReturn_kkA1 (s : State) : (irqReturn s).kkA1 = s.kkA1 := rfl
@[simp] theorem irqReturn_kkA2 (s : State) : (irqReturn s).kkA2 = s.kkA2 := rfl
@[simp] theorem irqReturn_wdt (s : State) : (irqReturn s).wdt = s.wdt := rfl
@[simp] theorem irqReturn_gie (s : State) : (irqReturn s).gie = true := rfl
@[simp] theorem irqReturn_sleeping (s : State) : (irqReturn s).sleeping = false := rfl
@[simp] theorem irqReturn_otherPend (s : State) : (irqReturn s).otherPend = s.otherPend := rfl
@[simp] theorem irqReturn_dataPin (s : State) : (irqReturn s).dataPin = s.dataPin := rfl
@[simp] theorem irqReturn_controller (s : State) : (irqReturn s).controller = s.controller := rfl
@[simp] theorem irqReturn_rdata (s : State) : (irqReturn s).rdata = s.rdata := rfl
@[simp] theorem irqReturn_vectoredTo (s : State) : (irqReturn s).vectoredTo = s.vectoredTo := rfl
@[simp] theorem irqReturn_prog (s : State) : (irqReturn s).prog = s.prog := rfl
@[simp] theorem irqReturn_turns (s : State) : (irqReturn s).turns = s.turns := rfl
@[simp] theorem irqReturn_draws (s : State) : (irqReturn s).draws = s.draws := rfl

/-! `fullReset` -/

@[simp] theorem fullReset_build (s : State) : (fullReset s).build = s.build := rfl
@[simp] theorem fullReset_buttons (s : State) : (fullReset s).buttons = 0x0000#16 := rfl
@[simp] theorem fullReset_seq (s : State) : (fullReset s).seq = Seq.reset := rfl
@[simp] theorem fullReset_latch (s : State) : (fullReset s).latch = false := rfl
@[simp] theorem fullReset_clock (s : State) : (fullReset s).clock = false := rfl
@[simp] theorem fullReset_dsync1 (s : State) : (fullReset s).dsync1 = false := rfl
@[simp] theorem fullReset_dsync2 (s : State) : (fullReset s).dsync2 = false := rfl
@[simp] theorem fullReset_wakef (s : State) : (fullReset s).wakef = false := rfl
@[simp] theorem fullReset_wde (s : State) : (fullReset s).wde = false := rfl
@[simp] theorem fullReset_wie (s : State) : (fullReset s).wie = false := rfl
@[simp] theorem fullReset_wkR1 (s : State) : (fullReset s).wkR1 = false := rfl
@[simp] theorem fullReset_wkR2 (s : State) : (fullReset s).wkR2 = false := rfl
@[simp] theorem fullReset_wkAck (s : State) : (fullReset s).wkAck = false := rfl
@[simp] theorem fullReset_kkReq (s : State) : (fullReset s).kkReq = false := rfl
@[simp] theorem fullReset_kkA1 (s : State) : (fullReset s).kkA1 = false := rfl
@[simp] theorem fullReset_kkA2 (s : State) : (fullReset s).kkA2 = false := rfl
@[simp] theorem fullReset_wdt (s : State) : (fullReset s).wdt = Wdt.reset := rfl
@[simp] theorem fullReset_gie (s : State) : (fullReset s).gie = false := rfl
@[simp] theorem fullReset_sleeping (s : State) : (fullReset s).sleeping = false := rfl
@[simp] theorem fullReset_otherPend (s : State) : (fullReset s).otherPend = false := rfl
@[simp] theorem fullReset_dataPin (s : State) : (fullReset s).dataPin = s.dataPin := rfl
@[simp] theorem fullReset_controller (s : State) : (fullReset s).controller = (drivePins false false s).controller := rfl
@[simp] theorem fullReset_rdata (s : State) : (fullReset s).rdata = 0x00#8 := rfl
@[simp] theorem fullReset_vectoredTo (s : State) : (fullReset s).vectoredTo = s.build.entryPoint := rfl
@[simp] theorem fullReset_prog (s : State) : (fullReset s).prog = [] := rfl
@[simp] theorem fullReset_turns (s : State) : (fullReset s).turns = s.turns := rfl
@[simp] theorem fullReset_draws (s : State) : (fullReset s).draws = s.draws := rfl

/-! `departKick` -/

@[simp] theorem departKick_build (s : State) : (departKick s).build = s.build := by unfold departKick; split <;> rfl
@[simp] theorem departKick_buttons (s : State) : (departKick s).buttons = s.buttons := by unfold departKick; split <;> rfl
@[simp] theorem departKick_seq (s : State) : (departKick s).seq = s.seq := by unfold departKick; split <;> rfl
@[simp] theorem departKick_latch (s : State) : (departKick s).latch = s.latch := by unfold departKick; split <;> rfl
@[simp] theorem departKick_clock (s : State) : (departKick s).clock = s.clock := by unfold departKick; split <;> rfl
@[simp] theorem departKick_dsync1 (s : State) : (departKick s).dsync1 = s.dsync1 := by unfold departKick; split <;> rfl
@[simp] theorem departKick_dsync2 (s : State) : (departKick s).dsync2 = s.dsync2 := by unfold departKick; split <;> rfl
@[simp] theorem departKick_wakef (s : State) : (departKick s).wakef = s.wakef := by unfold departKick; split <;> rfl
@[simp] theorem departKick_wde (s : State) : (departKick s).wde = s.wde := by unfold departKick; split <;> rfl
@[simp] theorem departKick_wie (s : State) : (departKick s).wie = s.wie := by unfold departKick; split <;> rfl
@[simp] theorem departKick_wkR1 (s : State) : (departKick s).wkR1 = s.wkR1 := by unfold departKick; split <;> rfl
@[simp] theorem departKick_wkR2 (s : State) : (departKick s).wkR2 = s.wkR2 := by unfold departKick; split <;> rfl
@[simp] theorem departKick_wkAck (s : State) : (departKick s).wkAck = s.wkAck := by unfold departKick; split <;> rfl
@[simp] theorem departKick_kkReq (s : State) : (departKick s).kkReq = if s.kkReq = s.kkA2 then !s.kkReq else s.kkReq := by cases h : s.kkReq <;> cases h' : s.kkA2 <;> simp [departKick, kbusy, h, h']
@[simp] theorem departKick_kkA1 (s : State) : (departKick s).kkA1 = s.kkA1 := by unfold departKick; split <;> rfl
@[simp] theorem departKick_kkA2 (s : State) : (departKick s).kkA2 = s.kkA2 := by unfold departKick; split <;> rfl
@[simp] theorem departKick_wdt (s : State) : (departKick s).wdt = s.wdt := by unfold departKick; split <;> rfl
@[simp] theorem departKick_gie (s : State) : (departKick s).gie = s.gie := by unfold departKick; split <;> rfl
@[simp] theorem departKick_sleeping (s : State) : (departKick s).sleeping = s.sleeping := by unfold departKick; split <;> rfl
@[simp] theorem departKick_otherPend (s : State) : (departKick s).otherPend = s.otherPend := by unfold departKick; split <;> rfl
@[simp] theorem departKick_dataPin (s : State) : (departKick s).dataPin = s.dataPin := by unfold departKick; split <;> rfl
@[simp] theorem departKick_controller (s : State) : (departKick s).controller = s.controller := by unfold departKick; split <;> rfl
@[simp] theorem departKick_rdata (s : State) : (departKick s).rdata = s.rdata := by unfold departKick; split <;> rfl
@[simp] theorem departKick_vectoredTo (s : State) : (departKick s).vectoredTo = s.vectoredTo := by unfold departKick; split <;> rfl
@[simp] theorem departKick_prog (s : State) : (departKick s).prog = s.prog := by unfold departKick; split <;> rfl
@[simp] theorem departKick_turns (s : State) : (departKick s).turns = s.turns := by unfold departKick; split <;> rfl
@[simp] theorem departKick_draws (s : State) : (departKick s).draws = s.draws := by unfold departKick; split <;> rfl

/-! `writeWdtCtrl` -/

@[simp] theorem writeWdtCtrl_build (d : Byte) (s : State) : (writeWdtCtrl d s).build = s.build := rfl
@[simp] theorem writeWdtCtrl_buttons (d : Byte) (s : State) : (writeWdtCtrl d s).buttons = s.buttons := rfl
@[simp] theorem writeWdtCtrl_seq (d : Byte) (s : State) : (writeWdtCtrl d s).seq = s.seq := rfl
@[simp] theorem writeWdtCtrl_latch (d : Byte) (s : State) : (writeWdtCtrl d s).latch = s.latch := rfl
@[simp] theorem writeWdtCtrl_clock (d : Byte) (s : State) : (writeWdtCtrl d s).clock = s.clock := rfl
@[simp] theorem writeWdtCtrl_dsync1 (d : Byte) (s : State) : (writeWdtCtrl d s).dsync1 = s.dsync1 := rfl
@[simp] theorem writeWdtCtrl_dsync2 (d : Byte) (s : State) : (writeWdtCtrl d s).dsync2 = s.dsync2 := rfl
@[simp] theorem writeWdtCtrl_wakef (d : Byte) (s : State) : (writeWdtCtrl d s).wakef = s.wakef := rfl
@[simp] theorem writeWdtCtrl_wde (d : Byte) (s : State) : (writeWdtCtrl d s).wde = (s.wde || d.getLsbD 0) := rfl
@[simp] theorem writeWdtCtrl_wie (d : Byte) (s : State) : (writeWdtCtrl d s).wie = d.getLsbD 1 := rfl
@[simp] theorem writeWdtCtrl_wkR1 (d : Byte) (s : State) : (writeWdtCtrl d s).wkR1 = s.wkR1 := rfl
@[simp] theorem writeWdtCtrl_wkR2 (d : Byte) (s : State) : (writeWdtCtrl d s).wkR2 = s.wkR2 := rfl
@[simp] theorem writeWdtCtrl_wkAck (d : Byte) (s : State) : (writeWdtCtrl d s).wkAck = s.wkAck := rfl
@[simp] theorem writeWdtCtrl_kkReq (d : Byte) (s : State) : (writeWdtCtrl d s).kkReq = s.kkReq := rfl
@[simp] theorem writeWdtCtrl_kkA1 (d : Byte) (s : State) : (writeWdtCtrl d s).kkA1 = s.kkA1 := rfl
@[simp] theorem writeWdtCtrl_kkA2 (d : Byte) (s : State) : (writeWdtCtrl d s).kkA2 = s.kkA2 := rfl
@[simp] theorem writeWdtCtrl_wdt (d : Byte) (s : State) : (writeWdtCtrl d s).wdt = s.wdt := rfl
@[simp] theorem writeWdtCtrl_gie (d : Byte) (s : State) : (writeWdtCtrl d s).gie = s.gie := rfl
@[simp] theorem writeWdtCtrl_sleeping (d : Byte) (s : State) : (writeWdtCtrl d s).sleeping = s.sleeping := rfl
@[simp] theorem writeWdtCtrl_otherPend (d : Byte) (s : State) : (writeWdtCtrl d s).otherPend = s.otherPend := rfl
@[simp] theorem writeWdtCtrl_dataPin (d : Byte) (s : State) : (writeWdtCtrl d s).dataPin = s.dataPin := rfl
@[simp] theorem writeWdtCtrl_controller (d : Byte) (s : State) : (writeWdtCtrl d s).controller = s.controller := rfl
@[simp] theorem writeWdtCtrl_rdata (d : Byte) (s : State) : (writeWdtCtrl d s).rdata = s.rdata := rfl
@[simp] theorem writeWdtCtrl_vectoredTo (d : Byte) (s : State) : (writeWdtCtrl d s).vectoredTo = s.vectoredTo := rfl
@[simp] theorem writeWdtCtrl_prog (d : Byte) (s : State) : (writeWdtCtrl d s).prog = s.prog := rfl
@[simp] theorem writeWdtCtrl_turns (d : Byte) (s : State) : (writeWdtCtrl d s).turns = s.turns := rfl
@[simp] theorem writeWdtCtrl_draws (d : Byte) (s : State) : (writeWdtCtrl d s).draws = s.draws := rfl

/-! `writeStatus` -/

@[simp] theorem writeStatus_build (d : Byte) (s : State) : (writeStatus d s).build = s.build := rfl
@[simp] theorem writeStatus_buttons (d : Byte) (s : State) : (writeStatus d s).buttons = s.buttons := rfl
@[simp] theorem writeStatus_seq (d : Byte) (s : State) : (writeStatus d s).seq = s.seq := rfl
@[simp] theorem writeStatus_latch (d : Byte) (s : State) : (writeStatus d s).latch = s.latch := rfl
@[simp] theorem writeStatus_clock (d : Byte) (s : State) : (writeStatus d s).clock = s.clock := rfl
@[simp] theorem writeStatus_dsync1 (d : Byte) (s : State) : (writeStatus d s).dsync1 = s.dsync1 := rfl
@[simp] theorem writeStatus_dsync2 (d : Byte) (s : State) : (writeStatus d s).dsync2 = s.dsync2 := rfl
@[simp] theorem writeStatus_wakef (d : Byte) (s : State) : (writeStatus d s).wakef = (s.wakef && !d.getLsbD 2) := rfl
@[simp] theorem writeStatus_wde (d : Byte) (s : State) : (writeStatus d s).wde = s.wde := rfl
@[simp] theorem writeStatus_wie (d : Byte) (s : State) : (writeStatus d s).wie = s.wie := rfl
@[simp] theorem writeStatus_wkR1 (d : Byte) (s : State) : (writeStatus d s).wkR1 = s.wkR1 := rfl
@[simp] theorem writeStatus_wkR2 (d : Byte) (s : State) : (writeStatus d s).wkR2 = s.wkR2 := rfl
@[simp] theorem writeStatus_wkAck (d : Byte) (s : State) : (writeStatus d s).wkAck = s.wkAck := rfl
@[simp] theorem writeStatus_kkReq (d : Byte) (s : State) : (writeStatus d s).kkReq = s.kkReq := rfl
@[simp] theorem writeStatus_kkA1 (d : Byte) (s : State) : (writeStatus d s).kkA1 = s.kkA1 := rfl
@[simp] theorem writeStatus_kkA2 (d : Byte) (s : State) : (writeStatus d s).kkA2 = s.kkA2 := rfl
@[simp] theorem writeStatus_wdt (d : Byte) (s : State) : (writeStatus d s).wdt = s.wdt := rfl
@[simp] theorem writeStatus_gie (d : Byte) (s : State) : (writeStatus d s).gie = s.gie := rfl
@[simp] theorem writeStatus_sleeping (d : Byte) (s : State) : (writeStatus d s).sleeping = s.sleeping := rfl
@[simp] theorem writeStatus_otherPend (d : Byte) (s : State) : (writeStatus d s).otherPend = s.otherPend := rfl
@[simp] theorem writeStatus_dataPin (d : Byte) (s : State) : (writeStatus d s).dataPin = s.dataPin := rfl
@[simp] theorem writeStatus_controller (d : Byte) (s : State) : (writeStatus d s).controller = s.controller := rfl
@[simp] theorem writeStatus_rdata (d : Byte) (s : State) : (writeStatus d s).rdata = s.rdata := rfl
@[simp] theorem writeStatus_vectoredTo (d : Byte) (s : State) : (writeStatus d s).vectoredTo = s.vectoredTo := rfl
@[simp] theorem writeStatus_prog (d : Byte) (s : State) : (writeStatus d s).prog = s.prog := rfl
@[simp] theorem writeStatus_turns (d : Byte) (s : State) : (writeStatus d s).turns = s.turns := rfl
@[simp] theorem writeStatus_draws (d : Byte) (s : State) : (writeStatus d s).draws = s.draws := rfl

/-! `dataSyncTick` -/

@[simp] theorem dataSyncTick_build (old s : State) : (dataSyncTick old s).build = s.build := rfl
@[simp] theorem dataSyncTick_buttons (old s : State) : (dataSyncTick old s).buttons = s.buttons := rfl
@[simp] theorem dataSyncTick_seq (old s : State) : (dataSyncTick old s).seq = s.seq := rfl
@[simp] theorem dataSyncTick_latch (old s : State) : (dataSyncTick old s).latch = s.latch := rfl
@[simp] theorem dataSyncTick_clock (old s : State) : (dataSyncTick old s).clock = s.clock := rfl
@[simp] theorem dataSyncTick_dsync1 (old s : State) : (dataSyncTick old s).dsync1 = dataLevel old := rfl
@[simp] theorem dataSyncTick_dsync2 (old s : State) : (dataSyncTick old s).dsync2 = old.dsync1 := rfl
@[simp] theorem dataSyncTick_wakef (old s : State) : (dataSyncTick old s).wakef = s.wakef := rfl
@[simp] theorem dataSyncTick_wde (old s : State) : (dataSyncTick old s).wde = s.wde := rfl
@[simp] theorem dataSyncTick_wie (old s : State) : (dataSyncTick old s).wie = s.wie := rfl
@[simp] theorem dataSyncTick_wkR1 (old s : State) : (dataSyncTick old s).wkR1 = s.wkR1 := rfl
@[simp] theorem dataSyncTick_wkR2 (old s : State) : (dataSyncTick old s).wkR2 = s.wkR2 := rfl
@[simp] theorem dataSyncTick_wkAck (old s : State) : (dataSyncTick old s).wkAck = s.wkAck := rfl
@[simp] theorem dataSyncTick_kkReq (old s : State) : (dataSyncTick old s).kkReq = s.kkReq := rfl
@[simp] theorem dataSyncTick_kkA1 (old s : State) : (dataSyncTick old s).kkA1 = s.kkA1 := rfl
@[simp] theorem dataSyncTick_kkA2 (old s : State) : (dataSyncTick old s).kkA2 = s.kkA2 := rfl
@[simp] theorem dataSyncTick_wdt (old s : State) : (dataSyncTick old s).wdt = s.wdt := rfl
@[simp] theorem dataSyncTick_gie (old s : State) : (dataSyncTick old s).gie = s.gie := rfl
@[simp] theorem dataSyncTick_sleeping (old s : State) : (dataSyncTick old s).sleeping = s.sleeping := rfl
@[simp] theorem dataSyncTick_otherPend (old s : State) : (dataSyncTick old s).otherPend = s.otherPend := rfl
@[simp] theorem dataSyncTick_dataPin (old s : State) : (dataSyncTick old s).dataPin = s.dataPin := rfl
@[simp] theorem dataSyncTick_controller (old s : State) : (dataSyncTick old s).controller = s.controller := rfl
@[simp] theorem dataSyncTick_rdata (old s : State) : (dataSyncTick old s).rdata = s.rdata := rfl
@[simp] theorem dataSyncTick_vectoredTo (old s : State) : (dataSyncTick old s).vectoredTo = s.vectoredTo := rfl
@[simp] theorem dataSyncTick_prog (old s : State) : (dataSyncTick old s).prog = s.prog := rfl
@[simp] theorem dataSyncTick_turns (old s : State) : (dataSyncTick old s).turns = s.turns := rfl
@[simp] theorem dataSyncTick_draws (old s : State) : (dataSyncTick old s).draws = s.draws := rfl

/-! `responseTick` -/

@[simp] theorem responseTick_build (s : State) : (responseTick s).build = s.build := rfl
@[simp] theorem responseTick_buttons (s : State) : (responseTick s).buttons = s.buttons := rfl
@[simp] theorem responseTick_seq (s : State) : (responseTick s).seq = s.seq := rfl
@[simp] theorem responseTick_latch (s : State) : (responseTick s).latch = s.latch := rfl
@[simp] theorem responseTick_clock (s : State) : (responseTick s).clock = s.clock := rfl
@[simp] theorem responseTick_dsync1 (s : State) : (responseTick s).dsync1 = s.dsync1 := rfl
@[simp] theorem responseTick_dsync2 (s : State) : (responseTick s).dsync2 = s.dsync2 := rfl
@[simp] theorem responseTick_wakef (s : State) : (responseTick s).wakef = s.wakef := rfl
@[simp] theorem responseTick_wde (s : State) : (responseTick s).wde = s.wde := rfl
@[simp] theorem responseTick_wie (s : State) : (responseTick s).wie = s.wie := rfl
@[simp] theorem responseTick_wkR1 (s : State) : (responseTick s).wkR1 = s.wkR1 := rfl
@[simp] theorem responseTick_wkR2 (s : State) : (responseTick s).wkR2 = s.wkR2 := rfl
@[simp] theorem responseTick_wkAck (s : State) : (responseTick s).wkAck = s.wkAck := rfl
@[simp] theorem responseTick_kkReq (s : State) : (responseTick s).kkReq = s.kkReq := rfl
@[simp] theorem responseTick_kkA1 (s : State) : (responseTick s).kkA1 = s.kkA1 := rfl
@[simp] theorem responseTick_kkA2 (s : State) : (responseTick s).kkA2 = s.kkA2 := rfl
@[simp] theorem responseTick_wdt (s : State) : (responseTick s).wdt = s.wdt := rfl
@[simp] theorem responseTick_gie (s : State) : (responseTick s).gie = s.gie := rfl
@[simp] theorem responseTick_sleeping (s : State) : (responseTick s).sleeping = s.sleeping := rfl
@[simp] theorem responseTick_otherPend (s : State) : (responseTick s).otherPend = s.otherPend := rfl
@[simp] theorem responseTick_dataPin (s : State) : (responseTick s).dataPin = s.dataPin := rfl
@[simp] theorem responseTick_controller (s : State) : (responseTick s).controller = s.controller.map fun r => { r with age := r.age + 1 } := rfl
@[simp] theorem responseTick_rdata (s : State) : (responseTick s).rdata = s.rdata := rfl
@[simp] theorem responseTick_vectoredTo (s : State) : (responseTick s).vectoredTo = s.vectoredTo := rfl
@[simp] theorem responseTick_prog (s : State) : (responseTick s).prog = s.prog := rfl
@[simp] theorem responseTick_turns (s : State) : (responseTick s).turns = s.turns := rfl
@[simp] theorem responseTick_draws (s : State) : (responseTick s).draws = s.draws := rfl

/-! `coreSyncTick` -/

@[simp] theorem coreSyncTick_build (old s : State) : (coreSyncTick old s).build = s.build := rfl
@[simp] theorem coreSyncTick_buttons (old s : State) : (coreSyncTick old s).buttons = s.buttons := rfl
@[simp] theorem coreSyncTick_seq (old s : State) : (coreSyncTick old s).seq = s.seq := rfl
@[simp] theorem coreSyncTick_latch (old s : State) : (coreSyncTick old s).latch = s.latch := rfl
@[simp] theorem coreSyncTick_clock (old s : State) : (coreSyncTick old s).clock = s.clock := rfl
@[simp] theorem coreSyncTick_dsync1 (old s : State) : (coreSyncTick old s).dsync1 = s.dsync1 := rfl
@[simp] theorem coreSyncTick_dsync2 (old s : State) : (coreSyncTick old s).dsync2 = s.dsync2 := rfl
@[simp] theorem coreSyncTick_wakef (old s : State) : (coreSyncTick old s).wakef = s.wakef := rfl
@[simp] theorem coreSyncTick_wde (old s : State) : (coreSyncTick old s).wde = s.wde := rfl
@[simp] theorem coreSyncTick_wie (old s : State) : (coreSyncTick old s).wie = s.wie := rfl
@[simp] theorem coreSyncTick_wkR1 (old s : State) : (coreSyncTick old s).wkR1 = old.wdt.req := rfl
@[simp] theorem coreSyncTick_wkR2 (old s : State) : (coreSyncTick old s).wkR2 = old.wkR1 := rfl
@[simp] theorem coreSyncTick_wkAck (old s : State) : (coreSyncTick old s).wkAck = s.wkAck := rfl
@[simp] theorem coreSyncTick_kkReq (old s : State) : (coreSyncTick old s).kkReq = s.kkReq := rfl
@[simp] theorem coreSyncTick_kkA1 (old s : State) : (coreSyncTick old s).kkA1 = old.wdt.kack := rfl
@[simp] theorem coreSyncTick_kkA2 (old s : State) : (coreSyncTick old s).kkA2 = old.kkA1 := rfl
@[simp] theorem coreSyncTick_wdt (old s : State) : (coreSyncTick old s).wdt = s.wdt := rfl
@[simp] theorem coreSyncTick_gie (old s : State) : (coreSyncTick old s).gie = s.gie := rfl
@[simp] theorem coreSyncTick_sleeping (old s : State) : (coreSyncTick old s).sleeping = s.sleeping := rfl
@[simp] theorem coreSyncTick_otherPend (old s : State) : (coreSyncTick old s).otherPend = s.otherPend := rfl
@[simp] theorem coreSyncTick_dataPin (old s : State) : (coreSyncTick old s).dataPin = s.dataPin := rfl
@[simp] theorem coreSyncTick_controller (old s : State) : (coreSyncTick old s).controller = s.controller := rfl
@[simp] theorem coreSyncTick_rdata (old s : State) : (coreSyncTick old s).rdata = s.rdata := rfl
@[simp] theorem coreSyncTick_vectoredTo (old s : State) : (coreSyncTick old s).vectoredTo = s.vectoredTo := rfl
@[simp] theorem coreSyncTick_prog (old s : State) : (coreSyncTick old s).prog = s.prog := rfl
@[simp] theorem coreSyncTick_turns (old s : State) : (coreSyncTick old s).turns = s.turns := rfl
@[simp] theorem coreSyncTick_draws (old s : State) : (coreSyncTick old s).draws = s.draws := rfl

/-! `wakeDeliveryTick` -/

@[simp] theorem wakeDeliveryTick_build (old s : State) : (wakeDeliveryTick old s).build = s.build := by unfold wakeDeliveryTick; split <;> rfl
@[simp] theorem wakeDeliveryTick_buttons (old s : State) : (wakeDeliveryTick old s).buttons = s.buttons := by unfold wakeDeliveryTick; split <;> rfl
@[simp] theorem wakeDeliveryTick_seq (old s : State) : (wakeDeliveryTick old s).seq = s.seq := by unfold wakeDeliveryTick; split <;> rfl
@[simp] theorem wakeDeliveryTick_latch (old s : State) : (wakeDeliveryTick old s).latch = s.latch := by unfold wakeDeliveryTick; split <;> rfl
@[simp] theorem wakeDeliveryTick_clock (old s : State) : (wakeDeliveryTick old s).clock = s.clock := by unfold wakeDeliveryTick; split <;> rfl
@[simp] theorem wakeDeliveryTick_dsync1 (old s : State) : (wakeDeliveryTick old s).dsync1 = s.dsync1 := by unfold wakeDeliveryTick; split <;> rfl
@[simp] theorem wakeDeliveryTick_dsync2 (old s : State) : (wakeDeliveryTick old s).dsync2 = s.dsync2 := by unfold wakeDeliveryTick; split <;> rfl
@[simp] theorem wakeDeliveryTick_wakef (old s : State) : (wakeDeliveryTick old s).wakef = if wakeArrives old then old.wie || s.wakef else s.wakef := by unfold wakeDeliveryTick; split <;> rfl
@[simp] theorem wakeDeliveryTick_wde (old s : State) : (wakeDeliveryTick old s).wde = s.wde := by unfold wakeDeliveryTick; split <;> rfl
@[simp] theorem wakeDeliveryTick_wie (old s : State) : (wakeDeliveryTick old s).wie = if wakeArrives old then false else s.wie := by unfold wakeDeliveryTick; split <;> rfl
@[simp] theorem wakeDeliveryTick_wkR1 (old s : State) : (wakeDeliveryTick old s).wkR1 = s.wkR1 := by unfold wakeDeliveryTick; split <;> rfl
@[simp] theorem wakeDeliveryTick_wkR2 (old s : State) : (wakeDeliveryTick old s).wkR2 = s.wkR2 := by unfold wakeDeliveryTick; split <;> rfl
@[simp] theorem wakeDeliveryTick_wkAck (old s : State) : (wakeDeliveryTick old s).wkAck = if wakeArrives old then old.wkR2 else s.wkAck := by unfold wakeDeliveryTick; split <;> rfl
@[simp] theorem wakeDeliveryTick_kkReq (old s : State) : (wakeDeliveryTick old s).kkReq = s.kkReq := by unfold wakeDeliveryTick; split <;> rfl
@[simp] theorem wakeDeliveryTick_kkA1 (old s : State) : (wakeDeliveryTick old s).kkA1 = s.kkA1 := by unfold wakeDeliveryTick; split <;> rfl
@[simp] theorem wakeDeliveryTick_kkA2 (old s : State) : (wakeDeliveryTick old s).kkA2 = s.kkA2 := by unfold wakeDeliveryTick; split <;> rfl
@[simp] theorem wakeDeliveryTick_wdt (old s : State) : (wakeDeliveryTick old s).wdt = s.wdt := by unfold wakeDeliveryTick; split <;> rfl
@[simp] theorem wakeDeliveryTick_gie (old s : State) : (wakeDeliveryTick old s).gie = s.gie := by unfold wakeDeliveryTick; split <;> rfl
@[simp] theorem wakeDeliveryTick_sleeping (old s : State) : (wakeDeliveryTick old s).sleeping = s.sleeping := by unfold wakeDeliveryTick; split <;> rfl
@[simp] theorem wakeDeliveryTick_otherPend (old s : State) : (wakeDeliveryTick old s).otherPend = s.otherPend := by unfold wakeDeliveryTick; split <;> rfl
@[simp] theorem wakeDeliveryTick_dataPin (old s : State) : (wakeDeliveryTick old s).dataPin = s.dataPin := by unfold wakeDeliveryTick; split <;> rfl
@[simp] theorem wakeDeliveryTick_controller (old s : State) : (wakeDeliveryTick old s).controller = s.controller := by unfold wakeDeliveryTick; split <;> rfl
@[simp] theorem wakeDeliveryTick_rdata (old s : State) : (wakeDeliveryTick old s).rdata = s.rdata := by unfold wakeDeliveryTick; split <;> rfl
@[simp] theorem wakeDeliveryTick_vectoredTo (old s : State) : (wakeDeliveryTick old s).vectoredTo = s.vectoredTo := by unfold wakeDeliveryTick; split <;> rfl
@[simp] theorem wakeDeliveryTick_prog (old s : State) : (wakeDeliveryTick old s).prog = s.prog := by unfold wakeDeliveryTick; split <;> rfl
@[simp] theorem wakeDeliveryTick_turns (old s : State) : (wakeDeliveryTick old s).turns = s.turns := by unfold wakeDeliveryTick; split <;> rfl
@[simp] theorem wakeDeliveryTick_draws (old s : State) : (wakeDeliveryTick old s).draws = s.draws := by unfold wakeDeliveryTick; split <;> rfl

/-! `commitRead` -/

@[simp] theorem commitRead_build (old s : State) : (commitRead old s).build = s.build := rfl
@[simp] theorem commitRead_buttons (old s : State) : (commitRead old s).buttons = old.seq.shift.zeroExtend 16 := rfl
@[simp] theorem commitRead_seq (old s : State) : (commitRead old s).seq = { old.seq with cnt := 0, k := 0, phase := .idle } := rfl
@[simp] theorem commitRead_latch (old s : State) : (commitRead old s).latch = s.latch := rfl
@[simp] theorem commitRead_clock (old s : State) : (commitRead old s).clock = s.clock := rfl
@[simp] theorem commitRead_dsync1 (old s : State) : (commitRead old s).dsync1 = s.dsync1 := rfl
@[simp] theorem commitRead_dsync2 (old s : State) : (commitRead old s).dsync2 = s.dsync2 := rfl
@[simp] theorem commitRead_wakef (old s : State) : (commitRead old s).wakef = s.wakef := rfl
@[simp] theorem commitRead_wde (old s : State) : (commitRead old s).wde = s.wde := rfl
@[simp] theorem commitRead_wie (old s : State) : (commitRead old s).wie = s.wie := rfl
@[simp] theorem commitRead_wkR1 (old s : State) : (commitRead old s).wkR1 = s.wkR1 := rfl
@[simp] theorem commitRead_wkR2 (old s : State) : (commitRead old s).wkR2 = s.wkR2 := rfl
@[simp] theorem commitRead_wkAck (old s : State) : (commitRead old s).wkAck = s.wkAck := rfl
@[simp] theorem commitRead_kkReq (old s : State) : (commitRead old s).kkReq = s.kkReq := rfl
@[simp] theorem commitRead_kkA1 (old s : State) : (commitRead old s).kkA1 = s.kkA1 := rfl
@[simp] theorem commitRead_kkA2 (old s : State) : (commitRead old s).kkA2 = s.kkA2 := rfl
@[simp] theorem commitRead_wdt (old s : State) : (commitRead old s).wdt = s.wdt := rfl
@[simp] theorem commitRead_gie (old s : State) : (commitRead old s).gie = s.gie := rfl
@[simp] theorem commitRead_sleeping (old s : State) : (commitRead old s).sleeping = s.sleeping := rfl
@[simp] theorem commitRead_otherPend (old s : State) : (commitRead old s).otherPend = s.otherPend := rfl
@[simp] theorem commitRead_dataPin (old s : State) : (commitRead old s).dataPin = s.dataPin := rfl
@[simp] theorem commitRead_controller (old s : State) : (commitRead old s).controller = s.controller := rfl
@[simp] theorem commitRead_rdata (old s : State) : (commitRead old s).rdata = s.rdata := rfl
@[simp] theorem commitRead_vectoredTo (old s : State) : (commitRead old s).vectoredTo = s.vectoredTo := rfl
@[simp] theorem commitRead_prog (old s : State) : (commitRead old s).prog = s.prog := rfl
@[simp] theorem commitRead_turns (old s : State) : (commitRead old s).turns = s.turns := rfl
@[simp] theorem commitRead_draws (old s : State) : (commitRead old s).draws = s.draws := rfl

/-! `latchHoldTick` -/

@[simp] theorem latchHoldTick_build (old s : State) : (latchHoldTick old s).build = s.build := by unfold latchHoldTick; dsimp only; split <;> rfl
@[simp] theorem latchHoldTick_buttons (old s : State) : (latchHoldTick old s).buttons = s.buttons := by unfold latchHoldTick; dsimp only; split <;> rfl
@[simp] theorem latchHoldTick_dsync1 (old s : State) : (latchHoldTick old s).dsync1 = s.dsync1 := by unfold latchHoldTick; dsimp only; split <;> rfl
@[simp] theorem latchHoldTick_dsync2 (old s : State) : (latchHoldTick old s).dsync2 = s.dsync2 := by unfold latchHoldTick; dsimp only; split <;> rfl
@[simp] theorem latchHoldTick_wakef (old s : State) : (latchHoldTick old s).wakef = s.wakef := by unfold latchHoldTick; dsimp only; split <;> rfl
@[simp] theorem latchHoldTick_wde (old s : State) : (latchHoldTick old s).wde = s.wde := by unfold latchHoldTick; dsimp only; split <;> rfl
@[simp] theorem latchHoldTick_wie (old s : State) : (latchHoldTick old s).wie = s.wie := by unfold latchHoldTick; dsimp only; split <;> rfl
@[simp] theorem latchHoldTick_wkR1 (old s : State) : (latchHoldTick old s).wkR1 = s.wkR1 := by unfold latchHoldTick; dsimp only; split <;> rfl
@[simp] theorem latchHoldTick_wkR2 (old s : State) : (latchHoldTick old s).wkR2 = s.wkR2 := by unfold latchHoldTick; dsimp only; split <;> rfl
@[simp] theorem latchHoldTick_wkAck (old s : State) : (latchHoldTick old s).wkAck = s.wkAck := by unfold latchHoldTick; dsimp only; split <;> rfl
@[simp] theorem latchHoldTick_kkReq (old s : State) : (latchHoldTick old s).kkReq = s.kkReq := by unfold latchHoldTick; dsimp only; split <;> rfl
@[simp] theorem latchHoldTick_kkA1 (old s : State) : (latchHoldTick old s).kkA1 = s.kkA1 := by unfold latchHoldTick; dsimp only; split <;> rfl
@[simp] theorem latchHoldTick_kkA2 (old s : State) : (latchHoldTick old s).kkA2 = s.kkA2 := by unfold latchHoldTick; dsimp only; split <;> rfl
@[simp] theorem latchHoldTick_wdt (old s : State) : (latchHoldTick old s).wdt = s.wdt := by unfold latchHoldTick; dsimp only; split <;> rfl
@[simp] theorem latchHoldTick_gie (old s : State) : (latchHoldTick old s).gie = s.gie := by unfold latchHoldTick; dsimp only; split <;> rfl
@[simp] theorem latchHoldTick_sleeping (old s : State) : (latchHoldTick old s).sleeping = s.sleeping := by unfold latchHoldTick; dsimp only; split <;> rfl
@[simp] theorem latchHoldTick_otherPend (old s : State) : (latchHoldTick old s).otherPend = s.otherPend := by unfold latchHoldTick; dsimp only; split <;> rfl
@[simp] theorem latchHoldTick_dataPin (old s : State) : (latchHoldTick old s).dataPin = s.dataPin := by unfold latchHoldTick; dsimp only; split <;> rfl
@[simp] theorem latchHoldTick_rdata (old s : State) : (latchHoldTick old s).rdata = s.rdata := by unfold latchHoldTick; dsimp only; split <;> rfl
@[simp] theorem latchHoldTick_vectoredTo (old s : State) : (latchHoldTick old s).vectoredTo = s.vectoredTo := by unfold latchHoldTick; dsimp only; split <;> rfl
@[simp] theorem latchHoldTick_prog (old s : State) : (latchHoldTick old s).prog = s.prog := by unfold latchHoldTick; dsimp only; split <;> rfl
@[simp] theorem latchHoldTick_turns (old s : State) : (latchHoldTick old s).turns = s.turns := by unfold latchHoldTick; dsimp only; split <;> rfl
@[simp] theorem latchHoldTick_draws (old s : State) : (latchHoldTick old s).draws = s.draws := by unfold latchHoldTick; dsimp only; split <;> rfl

/-! `sampleTick` -/

@[simp] theorem sampleTick_build (old s : State) : (sampleTick old s).build = s.build := rfl
@[simp] theorem sampleTick_buttons (old s : State) : (sampleTick old s).buttons = s.buttons := rfl
@[simp] theorem sampleTick_seq (old s : State) : (sampleTick old s).seq = { old.seq with shift := setBit old.seq.shift old.seq.k (!old.dsync2), cnt := old.build.settleCycles, phase := .clkLow } := rfl
@[simp] theorem sampleTick_latch (old s : State) : (sampleTick old s).latch = old.latch := rfl
@[simp] theorem sampleTick_clock (old s : State) : (sampleTick old s).clock = false := rfl
@[simp] theorem sampleTick_dsync1 (old s : State) : (sampleTick old s).dsync1 = s.dsync1 := rfl
@[simp] theorem sampleTick_dsync2 (old s : State) : (sampleTick old s).dsync2 = s.dsync2 := rfl
@[simp] theorem sampleTick_wakef (old s : State) : (sampleTick old s).wakef = s.wakef := rfl
@[simp] theorem sampleTick_wde (old s : State) : (sampleTick old s).wde = s.wde := rfl
@[simp] theorem sampleTick_wie (old s : State) : (sampleTick old s).wie = s.wie := rfl
@[simp] theorem sampleTick_wkR1 (old s : State) : (sampleTick old s).wkR1 = s.wkR1 := rfl
@[simp] theorem sampleTick_wkR2 (old s : State) : (sampleTick old s).wkR2 = s.wkR2 := rfl
@[simp] theorem sampleTick_wkAck (old s : State) : (sampleTick old s).wkAck = s.wkAck := rfl
@[simp] theorem sampleTick_kkReq (old s : State) : (sampleTick old s).kkReq = s.kkReq := rfl
@[simp] theorem sampleTick_kkA1 (old s : State) : (sampleTick old s).kkA1 = s.kkA1 := rfl
@[simp] theorem sampleTick_kkA2 (old s : State) : (sampleTick old s).kkA2 = s.kkA2 := rfl
@[simp] theorem sampleTick_wdt (old s : State) : (sampleTick old s).wdt = s.wdt := rfl
@[simp] theorem sampleTick_gie (old s : State) : (sampleTick old s).gie = s.gie := rfl
@[simp] theorem sampleTick_sleeping (old s : State) : (sampleTick old s).sleeping = s.sleeping := rfl
@[simp] theorem sampleTick_otherPend (old s : State) : (sampleTick old s).otherPend = s.otherPend := rfl
@[simp] theorem sampleTick_dataPin (old s : State) : (sampleTick old s).dataPin = s.dataPin := rfl
@[simp] theorem sampleTick_controller (old s : State) : (sampleTick old s).controller = s.controller.map (Controller.observe s.latch s.clock old.latch false) := rfl
@[simp] theorem sampleTick_rdata (old s : State) : (sampleTick old s).rdata = s.rdata := rfl
@[simp] theorem sampleTick_vectoredTo (old s : State) : (sampleTick old s).vectoredTo = s.vectoredTo := rfl
@[simp] theorem sampleTick_prog (old s : State) : (sampleTick old s).prog = s.prog := rfl
@[simp] theorem sampleTick_turns (old s : State) : (sampleTick old s).turns = s.turns := rfl
@[simp] theorem sampleTick_draws (old s : State) : (sampleTick old s).draws = s.draws := rfl

/-! `clkLowTick` -/

@[simp] theorem clkLowTick_build (old s : State) : (clkLowTick old s).build = s.build := by unfold clkLowTick; dsimp only; split; (split <;> rfl); rfl
@[simp] theorem clkLowTick_dsync1 (old s : State) : (clkLowTick old s).dsync1 = s.dsync1 := by unfold clkLowTick; dsimp only; split; (split <;> rfl); rfl
@[simp] theorem clkLowTick_dsync2 (old s : State) : (clkLowTick old s).dsync2 = s.dsync2 := by unfold clkLowTick; dsimp only; split; (split <;> rfl); rfl
@[simp] theorem clkLowTick_wakef (old s : State) : (clkLowTick old s).wakef = s.wakef := by unfold clkLowTick; dsimp only; split; (split <;> rfl); rfl
@[simp] theorem clkLowTick_wde (old s : State) : (clkLowTick old s).wde = s.wde := by unfold clkLowTick; dsimp only; split; (split <;> rfl); rfl
@[simp] theorem clkLowTick_wie (old s : State) : (clkLowTick old s).wie = s.wie := by unfold clkLowTick; dsimp only; split; (split <;> rfl); rfl
@[simp] theorem clkLowTick_wkR1 (old s : State) : (clkLowTick old s).wkR1 = s.wkR1 := by unfold clkLowTick; dsimp only; split; (split <;> rfl); rfl
@[simp] theorem clkLowTick_wkR2 (old s : State) : (clkLowTick old s).wkR2 = s.wkR2 := by unfold clkLowTick; dsimp only; split; (split <;> rfl); rfl
@[simp] theorem clkLowTick_wkAck (old s : State) : (clkLowTick old s).wkAck = s.wkAck := by unfold clkLowTick; dsimp only; split; (split <;> rfl); rfl
@[simp] theorem clkLowTick_kkReq (old s : State) : (clkLowTick old s).kkReq = s.kkReq := by unfold clkLowTick; dsimp only; split; (split <;> rfl); rfl
@[simp] theorem clkLowTick_kkA1 (old s : State) : (clkLowTick old s).kkA1 = s.kkA1 := by unfold clkLowTick; dsimp only; split; (split <;> rfl); rfl
@[simp] theorem clkLowTick_kkA2 (old s : State) : (clkLowTick old s).kkA2 = s.kkA2 := by unfold clkLowTick; dsimp only; split; (split <;> rfl); rfl
@[simp] theorem clkLowTick_wdt (old s : State) : (clkLowTick old s).wdt = s.wdt := by unfold clkLowTick; dsimp only; split; (split <;> rfl); rfl
@[simp] theorem clkLowTick_gie (old s : State) : (clkLowTick old s).gie = s.gie := by unfold clkLowTick; dsimp only; split; (split <;> rfl); rfl
@[simp] theorem clkLowTick_sleeping (old s : State) : (clkLowTick old s).sleeping = s.sleeping := by unfold clkLowTick; dsimp only; split; (split <;> rfl); rfl
@[simp] theorem clkLowTick_otherPend (old s : State) : (clkLowTick old s).otherPend = s.otherPend := by unfold clkLowTick; dsimp only; split; (split <;> rfl); rfl
@[simp] theorem clkLowTick_dataPin (old s : State) : (clkLowTick old s).dataPin = s.dataPin := by unfold clkLowTick; dsimp only; split; (split <;> rfl); rfl
@[simp] theorem clkLowTick_rdata (old s : State) : (clkLowTick old s).rdata = s.rdata := by unfold clkLowTick; dsimp only; split; (split <;> rfl); rfl
@[simp] theorem clkLowTick_vectoredTo (old s : State) : (clkLowTick old s).vectoredTo = s.vectoredTo := by unfold clkLowTick; dsimp only; split; (split <;> rfl); rfl
@[simp] theorem clkLowTick_prog (old s : State) : (clkLowTick old s).prog = s.prog := by unfold clkLowTick; dsimp only; split; (split <;> rfl); rfl
@[simp] theorem clkLowTick_turns (old s : State) : (clkLowTick old s).turns = s.turns := by unfold clkLowTick; dsimp only; split; (split <;> rfl); rfl
@[simp] theorem clkLowTick_draws (old s : State) : (clkLowTick old s).draws = s.draws := by unfold clkLowTick; dsimp only; split; (split <;> rfl); rfl

/-! `seqTick` -/

@[simp] theorem seqTick_build (old s : State) : (seqTick old s).build = s.build := by unfold seqTick; split <;> simp
@[simp] theorem seqTick_dsync1 (old s : State) : (seqTick old s).dsync1 = s.dsync1 := by unfold seqTick; split <;> simp
@[simp] theorem seqTick_dsync2 (old s : State) : (seqTick old s).dsync2 = s.dsync2 := by unfold seqTick; split <;> simp
@[simp] theorem seqTick_wakef (old s : State) : (seqTick old s).wakef = s.wakef := by unfold seqTick; split <;> simp
@[simp] theorem seqTick_wde (old s : State) : (seqTick old s).wde = s.wde := by unfold seqTick; split <;> simp
@[simp] theorem seqTick_wie (old s : State) : (seqTick old s).wie = s.wie := by unfold seqTick; split <;> simp
@[simp] theorem seqTick_wkR1 (old s : State) : (seqTick old s).wkR1 = s.wkR1 := by unfold seqTick; split <;> simp
@[simp] theorem seqTick_wkR2 (old s : State) : (seqTick old s).wkR2 = s.wkR2 := by unfold seqTick; split <;> simp
@[simp] theorem seqTick_wkAck (old s : State) : (seqTick old s).wkAck = s.wkAck := by unfold seqTick; split <;> simp
@[simp] theorem seqTick_kkReq (old s : State) : (seqTick old s).kkReq = s.kkReq := by unfold seqTick; split <;> simp
@[simp] theorem seqTick_kkA1 (old s : State) : (seqTick old s).kkA1 = s.kkA1 := by unfold seqTick; split <;> simp
@[simp] theorem seqTick_kkA2 (old s : State) : (seqTick old s).kkA2 = s.kkA2 := by unfold seqTick; split <;> simp
@[simp] theorem seqTick_wdt (old s : State) : (seqTick old s).wdt = s.wdt := by unfold seqTick; split <;> simp
@[simp] theorem seqTick_gie (old s : State) : (seqTick old s).gie = s.gie := by unfold seqTick; split <;> simp
@[simp] theorem seqTick_sleeping (old s : State) : (seqTick old s).sleeping = s.sleeping := by unfold seqTick; split <;> simp
@[simp] theorem seqTick_otherPend (old s : State) : (seqTick old s).otherPend = s.otherPend := by unfold seqTick; split <;> simp
@[simp] theorem seqTick_dataPin (old s : State) : (seqTick old s).dataPin = s.dataPin := by unfold seqTick; split <;> simp
@[simp] theorem seqTick_rdata (old s : State) : (seqTick old s).rdata = s.rdata := by unfold seqTick; split <;> simp
@[simp] theorem seqTick_vectoredTo (old s : State) : (seqTick old s).vectoredTo = s.vectoredTo := by unfold seqTick; split <;> simp
@[simp] theorem seqTick_prog (old s : State) : (seqTick old s).prog = s.prog := by unfold seqTick; split <;> simp
@[simp] theorem seqTick_turns (old s : State) : (seqTick old s).turns = s.turns := by unfold seqTick; split <;> simp
@[simp] theorem seqTick_draws (old s : State) : (seqTick old s).draws = s.draws := by unfold seqTick; split <;> simp

/-! `coreTick` -/

@[simp] theorem coreTick_build (s : State) : (coreTick s).build = s.build := by simp [coreTick]
@[simp] theorem coreTick_dsync1 (s : State) : (coreTick s).dsync1 = dataLevel s := by simp [coreTick]
@[simp] theorem coreTick_dsync2 (s : State) : (coreTick s).dsync2 = s.dsync1 := by simp [coreTick]
@[simp] theorem coreTick_wakef (s : State) : (coreTick s).wakef = if wakeArrives s then s.wie || s.wakef else s.wakef := by simp [coreTick]
@[simp] theorem coreTick_wde (s : State) : (coreTick s).wde = s.wde := by simp [coreTick]
@[simp] theorem coreTick_wie (s : State) : (coreTick s).wie = if wakeArrives s then false else s.wie := by simp [coreTick]
@[simp] theorem coreTick_wkR1 (s : State) : (coreTick s).wkR1 = s.wdt.req := by simp [coreTick]
@[simp] theorem coreTick_wkR2 (s : State) : (coreTick s).wkR2 = s.wkR1 := by simp [coreTick]
@[simp] theorem coreTick_wkAck (s : State) : (coreTick s).wkAck = if wakeArrives s then s.wkR2 else s.wkAck := by simp [coreTick]
@[simp] theorem coreTick_kkReq (s : State) : (coreTick s).kkReq = s.kkReq := by simp [coreTick]
@[simp] theorem coreTick_kkA1 (s : State) : (coreTick s).kkA1 = s.wdt.kack := by simp [coreTick]
@[simp] theorem coreTick_kkA2 (s : State) : (coreTick s).kkA2 = s.kkA1 := by simp [coreTick]
@[simp] theorem coreTick_wdt (s : State) : (coreTick s).wdt = s.wdt := by simp [coreTick]
@[simp] theorem coreTick_gie (s : State) : (coreTick s).gie = s.gie := by simp [coreTick]
@[simp] theorem coreTick_sleeping (s : State) : (coreTick s).sleeping = s.sleeping := by simp [coreTick]
@[simp] theorem coreTick_otherPend (s : State) : (coreTick s).otherPend = s.otherPend := by simp [coreTick]
@[simp] theorem coreTick_dataPin (s : State) : (coreTick s).dataPin = s.dataPin := by simp [coreTick]
@[simp] theorem coreTick_rdata (s : State) : (coreTick s).rdata = s.rdata := by simp [coreTick]
@[simp] theorem coreTick_vectoredTo (s : State) : (coreTick s).vectoredTo = s.vectoredTo := by simp [coreTick]
@[simp] theorem coreTick_prog (s : State) : (coreTick s).prog = s.prog := by simp [coreTick]
@[simp] theorem coreTick_turns (s : State) : (coreTick s).turns = s.turns := by simp [coreTick]
@[simp] theorem coreTick_draws (s : State) : (coreTick s).draws = s.draws := by simp [coreTick]

/-! `wdtSyncTick` -/

@[simp] theorem wdtSyncTick_build (old s : State) : (wdtSyncTick old s).build = s.build := rfl
@[simp] theorem wdtSyncTick_buttons (old s : State) : (wdtSyncTick old s).buttons = s.buttons := rfl
@[simp] theorem wdtSyncTick_seq (old s : State) : (wdtSyncTick old s).seq = s.seq := rfl
@[simp] theorem wdtSyncTick_latch (old s : State) : (wdtSyncTick old s).latch = s.latch := rfl
@[simp] theorem wdtSyncTick_clock (old s : State) : (wdtSyncTick old s).clock = s.clock := rfl
@[simp] theorem wdtSyncTick_dsync1 (old s : State) : (wdtSyncTick old s).dsync1 = s.dsync1 := rfl
@[simp] theorem wdtSyncTick_dsync2 (old s : State) : (wdtSyncTick old s).dsync2 = s.dsync2 := rfl
@[simp] theorem wdtSyncTick_wakef (old s : State) : (wdtSyncTick old s).wakef = s.wakef := rfl
@[simp] theorem wdtSyncTick_wde (old s : State) : (wdtSyncTick old s).wde = s.wde := rfl
@[simp] theorem wdtSyncTick_wie (old s : State) : (wdtSyncTick old s).wie = s.wie := rfl
@[simp] theorem wdtSyncTick_wkR1 (old s : State) : (wdtSyncTick old s).wkR1 = s.wkR1 := rfl
@[simp] theorem wdtSyncTick_wkR2 (old s : State) : (wdtSyncTick old s).wkR2 = s.wkR2 := rfl
@[simp] theorem wdtSyncTick_wkAck (old s : State) : (wdtSyncTick old s).wkAck = s.wkAck := rfl
@[simp] theorem wdtSyncTick_kkReq (old s : State) : (wdtSyncTick old s).kkReq = s.kkReq := rfl
@[simp] theorem wdtSyncTick_kkA1 (old s : State) : (wdtSyncTick old s).kkA1 = s.kkA1 := rfl
@[simp] theorem wdtSyncTick_kkA2 (old s : State) : (wdtSyncTick old s).kkA2 = s.kkA2 := rfl
@[simp] theorem wdtSyncTick_wdt (old s : State) : (wdtSyncTick old s).wdt = { s.wdt with a1 := old.wkAck, a2 := old.wdt.a1, k1 := old.kkReq, k2 := old.wdt.k1, e1 := old.wde, e2 := old.wdt.e1 } := rfl
@[simp] theorem wdtSyncTick_gie (old s : State) : (wdtSyncTick old s).gie = s.gie := rfl
@[simp] theorem wdtSyncTick_sleeping (old s : State) : (wdtSyncTick old s).sleeping = s.sleeping := rfl
@[simp] theorem wdtSyncTick_otherPend (old s : State) : (wdtSyncTick old s).otherPend = s.otherPend := rfl
@[simp] theorem wdtSyncTick_dataPin (old s : State) : (wdtSyncTick old s).dataPin = s.dataPin := rfl
@[simp] theorem wdtSyncTick_controller (old s : State) : (wdtSyncTick old s).controller = s.controller := rfl
@[simp] theorem wdtSyncTick_rdata (old s : State) : (wdtSyncTick old s).rdata = s.rdata := rfl
@[simp] theorem wdtSyncTick_vectoredTo (old s : State) : (wdtSyncTick old s).vectoredTo = s.vectoredTo := rfl
@[simp] theorem wdtSyncTick_prog (old s : State) : (wdtSyncTick old s).prog = s.prog := rfl
@[simp] theorem wdtSyncTick_turns (old s : State) : (wdtSyncTick old s).turns = s.turns := rfl
@[simp] theorem wdtSyncTick_draws (old s : State) : (wdtSyncTick old s).draws = s.draws := rfl

/-! `kickTick` -/

@[simp] theorem kickTick_build (old s : State) : (kickTick old s).build = s.build := by unfold kickTick; split <;> rfl
@[simp] theorem kickTick_buttons (old s : State) : (kickTick old s).buttons = s.buttons := by unfold kickTick; split <;> rfl
@[simp] theorem kickTick_seq (old s : State) : (kickTick old s).seq = s.seq := by unfold kickTick; split <;> rfl
@[simp] theorem kickTick_latch (old s : State) : (kickTick old s).latch = s.latch := by unfold kickTick; split <;> rfl
@[simp] theorem kickTick_clock (old s : State) : (kickTick old s).clock = s.clock := by unfold kickTick; split <;> rfl
@[simp] theorem kickTick_dsync1 (old s : State) : (kickTick old s).dsync1 = s.dsync1 := by unfold kickTick; split <;> rfl
@[simp] theorem kickTick_dsync2 (old s : State) : (kickTick old s).dsync2 = s.dsync2 := by unfold kickTick; split <;> rfl
@[simp] theorem kickTick_wakef (old s : State) : (kickTick old s).wakef = s.wakef := by unfold kickTick; split <;> rfl
@[simp] theorem kickTick_wde (old s : State) : (kickTick old s).wde = s.wde := by unfold kickTick; split <;> rfl
@[simp] theorem kickTick_wie (old s : State) : (kickTick old s).wie = s.wie := by unfold kickTick; split <;> rfl
@[simp] theorem kickTick_wkR1 (old s : State) : (kickTick old s).wkR1 = s.wkR1 := by unfold kickTick; split <;> rfl
@[simp] theorem kickTick_wkR2 (old s : State) : (kickTick old s).wkR2 = s.wkR2 := by unfold kickTick; split <;> rfl
@[simp] theorem kickTick_wkAck (old s : State) : (kickTick old s).wkAck = s.wkAck := by unfold kickTick; split <;> rfl
@[simp] theorem kickTick_kkReq (old s : State) : (kickTick old s).kkReq = s.kkReq := by unfold kickTick; split <;> rfl
@[simp] theorem kickTick_kkA1 (old s : State) : (kickTick old s).kkA1 = s.kkA1 := by unfold kickTick; split <;> rfl
@[simp] theorem kickTick_kkA2 (old s : State) : (kickTick old s).kkA2 = s.kkA2 := by unfold kickTick; split <;> rfl
@[simp] theorem kickTick_wdt (old s : State) : (kickTick old s).wdt = if kickArrives old then { s.wdt with kack := old.wdt.k2 } else s.wdt := by unfold kickTick; split <;> rfl
@[simp] theorem kickTick_gie (old s : State) : (kickTick old s).gie = s.gie := by unfold kickTick; split <;> rfl
@[simp] theorem kickTick_sleeping (old s : State) : (kickTick old s).sleeping = s.sleeping := by unfold kickTick; split <;> rfl
@[simp] theorem kickTick_otherPend (old s : State) : (kickTick old s).otherPend = s.otherPend := by unfold kickTick; split <;> rfl
@[simp] theorem kickTick_dataPin (old s : State) : (kickTick old s).dataPin = s.dataPin := by unfold kickTick; split <;> rfl
@[simp] theorem kickTick_controller (old s : State) : (kickTick old s).controller = s.controller := by unfold kickTick; split <;> rfl
@[simp] theorem kickTick_rdata (old s : State) : (kickTick old s).rdata = s.rdata := by unfold kickTick; split <;> rfl
@[simp] theorem kickTick_vectoredTo (old s : State) : (kickTick old s).vectoredTo = s.vectoredTo := by unfold kickTick; split <;> rfl
@[simp] theorem kickTick_prog (old s : State) : (kickTick old s).prog = s.prog := by unfold kickTick; split <;> rfl
@[simp] theorem kickTick_turns (old s : State) : (kickTick old s).turns = s.turns := by unfold kickTick; split <;> rfl
@[simp] theorem kickTick_draws (old s : State) : (kickTick old s).draws = s.draws := by unfold kickTick; split <;> rfl

/-! `resetCounterTick` -/

@[simp] theorem resetCounterTick_build (old s : State) : (resetCounterTick old s).build = s.build := rfl
@[simp] theorem resetCounterTick_buttons (old s : State) : (resetCounterTick old s).buttons = s.buttons := rfl
@[simp] theorem resetCounterTick_seq (old s : State) : (resetCounterTick old s).seq = s.seq := rfl
@[simp] theorem resetCounterTick_latch (old s : State) : (resetCounterTick old s).latch = s.latch := rfl
@[simp] theorem resetCounterTick_clock (old s : State) : (resetCounterTick old s).clock = s.clock := rfl
@[simp] theorem resetCounterTick_dsync1 (old s : State) : (resetCounterTick old s).dsync1 = s.dsync1 := rfl
@[simp] theorem resetCounterTick_dsync2 (old s : State) : (resetCounterTick old s).dsync2 = s.dsync2 := rfl
@[simp] theorem resetCounterTick_wakef (old s : State) : (resetCounterTick old s).wakef = s.wakef := rfl
@[simp] theorem resetCounterTick_wde (old s : State) : (resetCounterTick old s).wde = s.wde := rfl
@[simp] theorem resetCounterTick_wie (old s : State) : (resetCounterTick old s).wie = s.wie := rfl
@[simp] theorem resetCounterTick_wkR1 (old s : State) : (resetCounterTick old s).wkR1 = s.wkR1 := rfl
@[simp] theorem resetCounterTick_wkR2 (old s : State) : (resetCounterTick old s).wkR2 = s.wkR2 := rfl
@[simp] theorem resetCounterTick_wkAck (old s : State) : (resetCounterTick old s).wkAck = s.wkAck := rfl
@[simp] theorem resetCounterTick_kkReq (old s : State) : (resetCounterTick old s).kkReq = s.kkReq := rfl
@[simp] theorem resetCounterTick_kkA1 (old s : State) : (resetCounterTick old s).kkA1 = s.kkA1 := rfl
@[simp] theorem resetCounterTick_kkA2 (old s : State) : (resetCounterTick old s).kkA2 = s.kkA2 := rfl
@[simp] theorem resetCounterTick_wdt (old s : State) : (resetCounterTick old s).wdt = { s.wdt with rcnt := nextRcnt old } := rfl
@[simp] theorem resetCounterTick_gie (old s : State) : (resetCounterTick old s).gie = s.gie := rfl
@[simp] theorem resetCounterTick_sleeping (old s : State) : (resetCounterTick old s).sleeping = s.sleeping := rfl
@[simp] theorem resetCounterTick_otherPend (old s : State) : (resetCounterTick old s).otherPend = s.otherPend := rfl
@[simp] theorem resetCounterTick_dataPin (old s : State) : (resetCounterTick old s).dataPin = s.dataPin := rfl
@[simp] theorem resetCounterTick_controller (old s : State) : (resetCounterTick old s).controller = s.controller := rfl
@[simp] theorem resetCounterTick_rdata (old s : State) : (resetCounterTick old s).rdata = s.rdata := rfl
@[simp] theorem resetCounterTick_vectoredTo (old s : State) : (resetCounterTick old s).vectoredTo = s.vectoredTo := rfl
@[simp] theorem resetCounterTick_prog (old s : State) : (resetCounterTick old s).prog = s.prog := rfl
@[simp] theorem resetCounterTick_turns (old s : State) : (resetCounterTick old s).turns = s.turns := rfl
@[simp] theorem resetCounterTick_draws (old s : State) : (resetCounterTick old s).draws = s.draws := rfl

/-! `wakeCounterTick` -/

@[simp] theorem wakeCounterTick_build (old s : State) : (wakeCounterTick old s).build = s.build := rfl
@[simp] theorem wakeCounterTick_buttons (old s : State) : (wakeCounterTick old s).buttons = s.buttons := rfl
@[simp] theorem wakeCounterTick_seq (old s : State) : (wakeCounterTick old s).seq = s.seq := rfl
@[simp] theorem wakeCounterTick_latch (old s : State) : (wakeCounterTick old s).latch = s.latch := rfl
@[simp] theorem wakeCounterTick_clock (old s : State) : (wakeCounterTick old s).clock = s.clock := rfl
@[simp] theorem wakeCounterTick_dsync1 (old s : State) : (wakeCounterTick old s).dsync1 = s.dsync1 := rfl
@[simp] theorem wakeCounterTick_dsync2 (old s : State) : (wakeCounterTick old s).dsync2 = s.dsync2 := rfl
@[simp] theorem wakeCounterTick_wakef (old s : State) : (wakeCounterTick old s).wakef = s.wakef := rfl
@[simp] theorem wakeCounterTick_wde (old s : State) : (wakeCounterTick old s).wde = s.wde := rfl
@[simp] theorem wakeCounterTick_wie (old s : State) : (wakeCounterTick old s).wie = s.wie := rfl
@[simp] theorem wakeCounterTick_wkR1 (old s : State) : (wakeCounterTick old s).wkR1 = s.wkR1 := rfl
@[simp] theorem wakeCounterTick_wkR2 (old s : State) : (wakeCounterTick old s).wkR2 = s.wkR2 := rfl
@[simp] theorem wakeCounterTick_wkAck (old s : State) : (wakeCounterTick old s).wkAck = s.wkAck := rfl
@[simp] theorem wakeCounterTick_kkReq (old s : State) : (wakeCounterTick old s).kkReq = s.kkReq := rfl
@[simp] theorem wakeCounterTick_kkA1 (old s : State) : (wakeCounterTick old s).kkA1 = s.kkA1 := rfl
@[simp] theorem wakeCounterTick_kkA2 (old s : State) : (wakeCounterTick old s).kkA2 = s.kkA2 := rfl
@[simp] theorem wakeCounterTick_wdt (old s : State) : (wakeCounterTick old s).wdt = { s.wdt with wcnt := nextWcnt old, req := if wakeDeparts old then !old.wdt.req else old.wdt.req } := rfl
@[simp] theorem wakeCounterTick_gie (old s : State) : (wakeCounterTick old s).gie = s.gie := rfl
@[simp] theorem wakeCounterTick_sleeping (old s : State) : (wakeCounterTick old s).sleeping = s.sleeping := rfl
@[simp] theorem wakeCounterTick_otherPend (old s : State) : (wakeCounterTick old s).otherPend = s.otherPend := rfl
@[simp] theorem wakeCounterTick_dataPin (old s : State) : (wakeCounterTick old s).dataPin = s.dataPin := rfl
@[simp] theorem wakeCounterTick_controller (old s : State) : (wakeCounterTick old s).controller = s.controller := rfl
@[simp] theorem wakeCounterTick_rdata (old s : State) : (wakeCounterTick old s).rdata = s.rdata := rfl
@[simp] theorem wakeCounterTick_vectoredTo (old s : State) : (wakeCounterTick old s).vectoredTo = s.vectoredTo := rfl
@[simp] theorem wakeCounterTick_prog (old s : State) : (wakeCounterTick old s).prog = s.prog := rfl
@[simp] theorem wakeCounterTick_turns (old s : State) : (wakeCounterTick old s).turns = s.turns := rfl
@[simp] theorem wakeCounterTick_draws (old s : State) : (wakeCounterTick old s).draws = s.draws := rfl

/-! `popTurn` -/

@[simp] theorem popTurn_build (s : State) : (popTurn s).build = s.build := by unfold popTurn; split <;> rfl
@[simp] theorem popTurn_buttons (s : State) : (popTurn s).buttons = s.buttons := by unfold popTurn; split <;> rfl
@[simp] theorem popTurn_seq (s : State) : (popTurn s).seq = s.seq := by unfold popTurn; split <;> rfl
@[simp] theorem popTurn_latch (s : State) : (popTurn s).latch = s.latch := by unfold popTurn; split <;> rfl
@[simp] theorem popTurn_clock (s : State) : (popTurn s).clock = s.clock := by unfold popTurn; split <;> rfl
@[simp] theorem popTurn_dsync1 (s : State) : (popTurn s).dsync1 = s.dsync1 := by unfold popTurn; split <;> rfl
@[simp] theorem popTurn_dsync2 (s : State) : (popTurn s).dsync2 = s.dsync2 := by unfold popTurn; split <;> rfl
@[simp] theorem popTurn_wakef (s : State) : (popTurn s).wakef = s.wakef := by unfold popTurn; split <;> rfl
@[simp] theorem popTurn_wde (s : State) : (popTurn s).wde = s.wde := by unfold popTurn; split <;> rfl
@[simp] theorem popTurn_wie (s : State) : (popTurn s).wie = s.wie := by unfold popTurn; split <;> rfl
@[simp] theorem popTurn_wkR1 (s : State) : (popTurn s).wkR1 = s.wkR1 := by unfold popTurn; split <;> rfl
@[simp] theorem popTurn_wkR2 (s : State) : (popTurn s).wkR2 = s.wkR2 := by unfold popTurn; split <;> rfl
@[simp] theorem popTurn_wkAck (s : State) : (popTurn s).wkAck = s.wkAck := by unfold popTurn; split <;> rfl
@[simp] theorem popTurn_kkReq (s : State) : (popTurn s).kkReq = s.kkReq := by unfold popTurn; split <;> rfl
@[simp] theorem popTurn_kkA1 (s : State) : (popTurn s).kkA1 = s.kkA1 := by unfold popTurn; split <;> rfl
@[simp] theorem popTurn_kkA2 (s : State) : (popTurn s).kkA2 = s.kkA2 := by unfold popTurn; split <;> rfl
@[simp] theorem popTurn_wdt (s : State) : (popTurn s).wdt = s.wdt := by unfold popTurn; split <;> rfl
@[simp] theorem popTurn_gie (s : State) : (popTurn s).gie = s.gie := by unfold popTurn; split <;> rfl
@[simp] theorem popTurn_sleeping (s : State) : (popTurn s).sleeping = s.sleeping := by unfold popTurn; split <;> rfl
@[simp] theorem popTurn_otherPend (s : State) : (popTurn s).otherPend = s.otherPend := by unfold popTurn; split <;> rfl
@[simp] theorem popTurn_dataPin (s : State) : (popTurn s).dataPin = s.dataPin := by unfold popTurn; split <;> rfl
@[simp] theorem popTurn_controller (s : State) : (popTurn s).controller = s.controller := by unfold popTurn; split <;> rfl
@[simp] theorem popTurn_rdata (s : State) : (popTurn s).rdata = s.rdata := by unfold popTurn; split <;> rfl
@[simp] theorem popTurn_vectoredTo (s : State) : (popTurn s).vectoredTo = s.vectoredTo := by unfold popTurn; split <;> rfl
@[simp] theorem popTurn_prog (s : State) : (popTurn s).prog = s.prog := by unfold popTurn; split <;> rfl
@[simp] theorem popTurn_turns (s : State) : (popTurn s).turns = s.turns.tail := by unfold popTurn; split <;> simp_all

end Sys2Proof.Machine
end

