-- ==== Sys2Proof/Laws/Ops.lean ====
section
/-! SUPPORT. One lemma for each shared operation that says everything it can do: taking an interrupt, the HOST
turn, the two ticks, and one step. Cite these instead of unfolding the operations. -/

namespace Sys2Proof.Machine

/-- The twelve-bit write: bit `k` takes the value, every other bit stays. -/
theorem setBit_getLsbD (v : Buttons) (k j : Nat) (b : Bool) (hk : k < 12) :
    (setBit v k b).getLsbD j = if j = k then b else v.getLsbD j := by
  cases b <;> simp only [setBit] <;> by_cases h : j = k
  · subst h; simp [hk]
  · simp only [h, if_false, Bool.false_eq_true, BitVec.getLsbD_and, BitVec.getLsbD_not, BitVec.getLsbD_shiftLeft]
    by_cases hj : j < 12
    · by_cases hlt : j < k
      · simp [hlt, hj]
      · have : j - k ≠ 0 := by omega
        simp [hlt, hj, this]
    · simp [hj, BitVec.getLsbD_of_ge v j (by omega)]
  · subst h; simp [hk]
  · simp only [h, if_false, if_true, BitVec.getLsbD_or, BitVec.getLsbD_shiftLeft]
    by_cases hlt : j < k
    · simp [hlt]
    · have : j - k ≠ 0 := by omega
      simp [this]

/-- Taking an interrupt clears the taken source's pending bit, goes to its vector and wakes the core, and GIE is 1 after
it. -/
theorem takeIrq_eq (s : State) :
    takeIrq s = { s with
      gie := true
      sleeping := false
      wakef := if irqSource s = .wake then false else s.wakef
      otherPend := if irqSource s = .wake then s.otherPend else false
      vectoredTo := if irqSource s = .wake then s.build.wakeVector else s.build.otherVector } := by
  unfold takeIrq irqReturn irqEnter
  cases irqSource s <;> simp

/-- A word that runs to a next state is a decoded operation that does. -/
theorem runWord_next {w : Word} {s t : State} (h : runWord w s = .next t) : ∃ i, decode w = .ok i ∧ exec i s = .next t := by
  unfold runWord at h
  split at h
  · exact ⟨_, ‹_›, h⟩
  · cases h

/-- A request that runs to a next state is a host operation that does, with the queue as it was or with the request put
back, or an access that the block does not see. -/
theorem runRequest_next {r : Request} {s t : State} (h : runRequest r s = .next t) :
    t = s ∨ ∃ p i, exec i { s with prog := p } = .next t := by
  cases r with
  | word w => obtain ⟨i, -, hi⟩ := runWord_next h; exact .inr ⟨s.prog, i, hi⟩
  | readWhile off bit =>
    simp only [runRequest, runReadWhile] at h
    split at h
    · exact .inr ⟨_, _, h⟩
    · exact .inr ⟨s.prog, _, h⟩
  | access a =>
    simp only [runRequest, runAccess] at h
    split at h
    · split at h
      · obtain ⟨i, -, hi⟩ := runWord_next h; exact .inr ⟨s.prog, i, hi⟩
      · cases h
    · cases h; exact .inl rfl

/-- A HOST turn that waits. -/
theorem hostTurn_waits {s : State} (h : hostEnabled s = false) : hostTurn s = .next s := by
  unfold hostTurn
  rw [if_neg (by simp [h])]

/-- A HOST turn with a request queued runs it. -/
theorem hostTurn_request {s : State} {r : Request} {rest : List Request} (he : hostEnabled s = true)
    (hp : s.prog = r :: rest) : hostTurn s = runRequest r { s with prog := rest } := by
  unfold hostTurn
  rw [if_pos he, hp]

/-- A HOST turn with a valid word queued performs its operation. -/
theorem hostTurn_word {s : State} {w : Word} {rest : List Request} {i : Instr} (he : hostEnabled s = true)
    (hp : s.prog = .word w :: rest) (hd : decode w = .ok i) : hostTurn s = exec i { s with prog := rest } := by
  rw [hostTurn_request he hp]
  simp only [runRequest, runWord, hd]

/-- Everything a HOST turn can do: wait, take a host-side statement, or perform one host operation. -/
theorem hostTurn_next {s t : State} (h : hostTurn s = .next t) :
    (hostEnabled s = false ∧ t = s) ∨
    (hostEnabled s = true ∧ ∃ p d, t = { s with prog := p, draws := d } ∨
      ∃ i, exec i { s with prog := p, draws := d } = .next t) := by
  unfold hostTurn at h
  split at h
  · rename_i he
    refine .inr ⟨he, ?_⟩
    split at h
    · rename_i rest _
      rcases runRequest_next h with rfl | ⟨p, i, hi⟩
      · exact ⟨rest, s.draws, .inl rfl⟩
      · exact ⟨p, s.draws, .inr ⟨i, hi⟩⟩
    · refine ⟨s.prog, s.draws + 1, ?_⟩
      unfold runFree at h
      split at h
      · exact .inr ⟨_, h⟩
      · cases h
        exact .inl rfl
  · cases h
    exact .inl ⟨by simp_all, rfl⟩

/-- A WDT_TICK that raises no reset, field by field of the WDT domain; nothing else changes. -/
theorem wdtTick_eq (s : State) (h : watchdogExpires s = false) :
    wdtTick s = { s with wdt := {
      req := if wakeDeparts s then !s.wdt.req else s.wdt.req
      a1 := s.wkAck, a2 := s.wdt.a1
      k1 := s.kkReq, k2 := s.wdt.k1
      kack := if kickArrives s then s.wdt.k2 else s.wdt.kack
      e1 := s.wde, e2 := s.wdt.e1
      wcnt := nextWcnt s
      rcnt := nextRcnt s } } := by
  unfold wdtTick
  rw [if_neg (by simp [h])]
  unfold wakeCounterTick resetCounterTick kickTick wdtSyncTick
  split <;> rfl

/-- A WDT_TICK that raises `WatchdogReset` is the full reset and nothing else. -/
theorem wdtTick_expires (s : State) (h : watchdogExpires s = true) : wdtTick s = fullReset s := by
  unfold wdtTick
  rw [if_pos h]

/-- What a CORE_TICK does to the reader, by the phase it starts in. -/
theorem coreTick_seq (s : State) :
    (s.seq.phase = .idle ∧ (coreTick s).seq = s.seq ∧ (coreTick s).buttons = s.buttons ∧
      (coreTick s).latch = s.latch ∧ (coreTick s).clock = s.clock) ∨
    (s.seq.phase = .latchHold ∧ s.seq.cnt - 1 = 0 ∧
      (coreTick s).seq = { s.seq with cnt := 0, phase := .sample } ∧ (coreTick s).buttons = s.buttons ∧
      (coreTick s).latch = false ∧ (coreTick s).clock = s.clock) ∨
    (s.seq.phase = .latchHold ∧ s.seq.cnt - 1 ≠ 0 ∧
      (coreTick s).seq = { s.seq with cnt := s.seq.cnt - 1 } ∧ (coreTick s).buttons = s.buttons ∧
      (coreTick s).latch = s.latch ∧ (coreTick s).clock = s.clock) ∨
    (s.seq.phase = .sample ∧
      (coreTick s).seq = { s.seq with
        shift := setBit s.seq.shift s.seq.k (!s.dsync2), cnt := s.build.settleCycles, phase := .clkLow } ∧
      (coreTick s).buttons = s.buttons ∧ (coreTick s).latch = s.latch ∧ (coreTick s).clock = false) ∨
    (s.seq.phase = .clkLow ∧ s.seq.cnt - 1 ≠ 0 ∧
      (coreTick s).seq = { s.seq with cnt := s.seq.cnt - 1 } ∧ (coreTick s).buttons = s.buttons ∧
      (coreTick s).latch = s.latch ∧ (coreTick s).clock = s.clock) ∨
    (s.seq.phase = .clkLow ∧ s.seq.cnt - 1 = 0 ∧ s.seq.k ≠ 11 ∧
      (coreTick s).seq = { s.seq with cnt := 0, k := s.seq.k + 1, phase := .sample } ∧
      (coreTick s).buttons = s.buttons ∧ (coreTick s).latch = s.latch ∧ (coreTick s).clock = true) ∨
    (s.seq.phase = .clkLow ∧ s.seq.cnt - 1 = 0 ∧ s.seq.k = 11 ∧
      (coreTick s).seq = { s.seq with cnt := 0, k := 0, phase := .idle } ∧
      (coreTick s).buttons = s.seq.shift.zeroExtend 16 ∧ (coreTick s).latch = s.latch ∧
      (coreTick s).clock = true) := by
  unfold coreTick seqTick
  cases hp : s.seq.phase <;> simp only [reduceCtorEq, false_and, or_false, false_or, true_and]
  · simp
  · by_cases hc : s.seq.cnt - 1 = 0 <;> simp [latchHoldTick, hc]
  · simp
  · by_cases hc : s.seq.cnt - 1 = 0
    · by_cases hk : s.seq.k = 11 <;> simp [clkLowTick, hc, hk]
    · simp [clkLowTick, hc]

/-- Everything one step can do, by the turn it takes. -/
theorem step_next {s t : State} (h : step s = .next t) :
    (nextTurn s = .host ∧ hostTurn (popTurn s) = .next t) ∨
    (nextTurn s = .coreTick ∧ t = coreTick (popTurn s)) ∨
    (nextTurn s = .wdtTick ∧ t = wdtTick (popTurn s)) ∨
    (nextTurn s = .irq ∧ t = irqTurn (popTurn s)) ∨
    (∃ d, nextTurn s = .data d ∧ t = setData d (popTurn s)) ∨
    (nextTurn s = .other ∧ t = raiseOther (popTurn s)) ∨
    (∃ w, nextTurn s = .controller w ∧ t = setWires w (popTurn s)) ∨
    (nextTurn s = .reset ∧ t = fullReset (popTurn s)) := by
  unfold step takeTurn at h
  split at h <;> simp_all

end Sys2Proof.Machine
end

