-- ==== Sys2Proof/Laws/PerInstr.lean ====
section
/-! SUPPORT. A fact about every host operation as a term, one lemma a constructor: the word the encoder gives it lies
in the row the opcode table gives it. -/

namespace Sys2Proof.Laws.EncodingRow

/-- The encoded word is in the operation's row of the opcode table. -/
def Statement (i : Instr) : Prop := (rowOf i).covers (encode i) = true

theorem rdCmd : Statement .rdCmd := by unfold Statement; decide
theorem rdStatus : Statement .rdStatus := by unfold Statement; decide
theorem rdBtnLo : Statement .rdBtnLo := by unfold Statement; decide
theorem rdBtnHi : Statement .rdBtnHi := by unfold Statement; decide
theorem rdWdtctrl : Statement .rdWdtctrl := by unfold Statement; decide
theorem rdRsvd5 : Statement .rdRsvd5 := by unfold Statement; decide
theorem rdRsvd6to7 (o : BitVec 1) : Statement (.rdRsvd6to7 o) := by unfold Statement; revert o; decide
theorem rdRsvd8toF (o : BitVec 3) : Statement (.rdRsvd8toF o) := by unfold Statement; revert o; decide
theorem wrCmdStart : Statement .wrCmdStart := by unfold Statement; decide
theorem wrCmdKick : Statement .wrCmdKick := by unfold Statement; decide

/-- A write's word keeps the high byte that its offset gives, whatever the data. -/
theorem write_high (off : Offset) (data mask : Byte) :
    encodeWrite off data &&& (mask ++ 0x00#8) = ((0b01#2 ++ 0b00#2 ++ off) &&& mask) ++ 0x00#8 := by
  show ((0b01#2 ++ 0b00#2 ++ off) ++ data) &&& (mask ++ 0x00#8) = _
  rw [BitVec.and_append]
  simp

/-- What a write's row asks of the offset alone. -/
theorem covers_write (r : TableRow) (off : Offset) (data mask : Byte) (hm : r.mask = mask ++ 0x00#8)
    (hp : r.pattern = ((0b01#2 ++ 0b00#2 ++ off) &&& mask) ++ 0x00#8) : r.covers (encodeWrite off data) = true := by
  simp only [TableRow.covers, hm, hp, write_high, beq_self_eq_true]

theorem wrCmdRsvd (data : Byte) : Statement (.wrCmdRsvd data) :=
  covers_write _ 0x0#4 data 0xFF#8 rfl rfl
theorem wrStatus (data : Byte) : Statement (.wrStatus data) :=
  covers_write _ 0x1#4 data 0xFF#8 rfl rfl
theorem wrBtnLo (data : Byte) : Statement (.wrBtnLo data) :=
  covers_write _ 0x2#4 data 0xFF#8 rfl rfl
theorem wrBtnHi (data : Byte) : Statement (.wrBtnHi data) :=
  covers_write _ 0x3#4 data 0xFF#8 rfl rfl
theorem wrWdtctrl (data : Byte) : Statement (.wrWdtctrl data) :=
  covers_write _ 0x4#4 data 0xFF#8 rfl rfl
theorem wrRsvd5 (data : Byte) : Statement (.wrRsvd5 data) :=
  covers_write _ 0x5#4 data 0xFF#8 rfl rfl
theorem wrRsvd6to7 (o : BitVec 1) (data : Byte) : Statement (.wrRsvd6to7 o data) :=
  covers_write _ (0b011#3 ++ o) data 0xFE#8 rfl (by simp only [rowOf]; revert o; decide)
theorem wrRsvd8toF (o : BitVec 3) (data : Byte) : Statement (.wrRsvd8toF o data) :=
  covers_write _ (0b1#1 ++ o) data 0xF8#8 rfl (by simp only [rowOf]; revert o; decide)
theorem cli : Statement .cli := by unfold Statement; decide
theorem sei : Statement .sei := by unfold Statement; decide
theorem sleep : Statement .sleep := by unfold Statement; decide
theorem seiSleep : Statement .seiSleep := by unfold Statement; decide

end Sys2Proof.Laws.EncodingRow
end

