-- ==== Sys2Proof/Laws/Steps.lean ====
section
/-! SUPPORT. What a host operation, a turn and a step can do, said once: the inversion of `exec`, and the induction that
reduces an invariant of every turn to one small goal for each named operation. -/

namespace Sys2Proof.Machine

/-- Every host operation answers a next state, in every state. -/
theorem exec_answers (i : Instr) (s : State) : ∃ t, exec i s = .next t := by
  cases i <;> exact ⟨_, rfl⟩

/-- What a host operation can make of a state: a byte returned, nothing, or one of the named writes. -/
theorem exec_cases {i : Instr} {s t : State} (h : exec i s = .next t) :
    (∃ v, t = returnByte v s) ∨ t = s ∨ (s.seq.phase = .idle ∧ t = startRead s) ∨ t = departKick s ∨
    (∃ d, t = writeStatus d s) ∨ (∃ d, t = writeWdtCtrl d s) ∨
    (∃ g z, t = { s with gie := g, sleeping := z }) := by
  cases i <;> cases h
  case wrCmdStart =>
    by_cases hb : busy s = true
    · exact .inr (.inl (by rw [if_pos hb]))
    · refine .inr (.inr (.inl ⟨?_, by rw [if_neg hb]⟩))
      simpa [busy] using hb
  case wrCmdKick => exact .inr (.inr (.inr (.inl rfl)))
  case wrStatus d => exact .inr (.inr (.inr (.inr (.inl ⟨d, rfl⟩))))
  case wrWdtctrl d => exact .inr (.inr (.inr (.inr (.inr (.inl ⟨d, rfl⟩)))))
  case cli => exact .inr (.inr (.inr (.inr (.inr (.inr ⟨false, s.sleeping, rfl⟩)))))
  case sei => exact .inr (.inr (.inr (.inr (.inr (.inr ⟨true, s.sleeping, rfl⟩)))))
  case sleep => exact .inr (.inr (.inr (.inr (.inr (.inr ⟨s.gie, true, rfl⟩)))))
  case seiSleep => exact .inr (.inr (.inr (.inr (.inr (.inr ⟨true, true, rfl⟩)))))
  all_goals exact .inl ⟨_, rfl⟩

/-- Whether the watchdog expires does not depend on the schedule. -/
@[simp] theorem watchdogExpires_popTurn (s : State) : watchdogExpires (popTurn s) = watchdogExpires s := by
  simp [watchdogExpires, kickArrives]

/-- Whether a host operation may run does not depend on the schedule. -/
@[simp] theorem hostEnabled_popTurn (s : State) : hostEnabled (popTurn s) = hostEnabled s := by
  simp [hostEnabled, irqEnabled, irqPending]

/-- What a register reads is settled by the block's own elements: the schedule, the requests and the byte returned
before do not matter. -/
theorem regRead_eq {s t : State} (off : Offset) (hb : t.build = s.build) (hq : t.seq.phase = s.seq.phase)
    (hn : t.buttons = s.buttons) (hw : t.wakef = s.wakef) (he : t.wde = s.wde) (hi : t.wie = s.wie)
    (hr : t.kkReq = s.kkReq) (ha : t.kkA2 = s.kkA2) : regRead off t = regRead off s := by
  simp only [regRead, statusByte, btnLoByte, btnHiByte, wdtCtrlByte, kbusy, busy, profileBit,
    hb, hq, hn, hw, he, hi, hr, ha]

/-- A read returns what the register map shows, and does nothing else. -/
theorem exec_decodeRead (off : Offset) (s : State) :
    exec (decodeRead off) s = .next { s with rdata := regRead off s } := by
  unfold decodeRead regRead
  repeat' split
  all_goals first | rfl | simp_all

/-- A scheduled HOST turn that may run performs the oldest request. -/
theorem step_request {s : State} {ts : List Turn} {r : Request} {rest : List Request} (ht : s.turns = .host :: ts)
    (he : hostEnabled s = true) (hp : s.prog = r :: rest) :
    step s = runRequest r { s with turns := ts, prog := rest } := by
  unfold step nextTurn popTurn
  rw [ht]
  exact hostTurn_request he hp

/-- One round of a poll loop: the byte read, and the loop still asked for while the bit is 1. -/
theorem runReadWhile_eq (off : Offset) (bit : Nat) (s : State) :
    runReadWhile off bit s = .next { s with
      rdata := regRead off s
      prog := if (regRead off s).getLsbD bit then .readWhile off bit :: s.prog else s.prog } := by
  unfold runReadWhile
  split <;> exact exec_decodeRead _ _

/-- Bit 0 of STATUS is BUSY. -/
theorem status_bit_busy (s : State) : (regRead 0x1#4 s).getLsbD 0 = busy s := by
  show (statusByte s).getLsbD 0 = busy s
  simp only [statusByte, BitVec.getLsbD_append]
  simp

/-- The schedule aside, taking the next turn off it changes nothing. -/
theorem popTurn_eq (s : State) : ∃ ts d, popTurn s = { s with turns := ts, draws := d } := by
  unfold popTurn
  split
  · exact ⟨_, s.draws, rfl⟩
  · exact ⟨s.turns, _, rfl⟩

/-- What each named operation has to keep for every turn to keep a property. -/
structure KeptByEveryOperation (P : State → Prop) : Prop where
  coreTick : ∀ s, P s → P (coreTick s)
  wdtTick : ∀ s, P s → watchdogExpires s = false → P (wdtTick s)
  fullReset : ∀ s, P s → P (fullReset s)
  returnByte : ∀ v s, P s → P (returnByte v s)
  startRead : ∀ s, P s → s.seq.phase = .idle → P (startRead s)
  departKick : ∀ s, P s → P (departKick s)
  writeStatus : ∀ d s, P s → P (writeStatus d s)
  writeWdtCtrl : ∀ d s, P s → P (writeWdtCtrl d s)
  gate : ∀ s g z, P s → P { s with gie := g, sleeping := z }
  request : ∀ s p d, P s → P { s with prog := p, draws := d }
  takeIrq : ∀ s, P s → P (takeIrq s)
  setData : ∀ d s, P s → P (setData d s)
  raiseOther : ∀ s, P s → P (raiseOther s)
  setWires : ∀ w s, P s → P (setWires w s)

/-- A property that every named operation keeps is kept by every host operation. -/
theorem exec_keeps {P : State → Prop} (K : KeptByEveryOperation P) {i : Instr} {s t : State} (hs : P s)
    (h : exec i s = .next t) : P t := by
  rcases exec_cases h with ⟨v, rfl⟩ | rfl | ⟨hi, rfl⟩ | rfl | ⟨d, rfl⟩ | ⟨d, rfl⟩ | ⟨g, z, rfl⟩
  exacts [K.returnByte _ _ hs, hs, K.startRead _ hs hi, K.departKick _ hs, K.writeStatus _ _ hs,
    K.writeWdtCtrl _ _ hs, K.gate _ _ _ hs]

/-- A property that every named operation keeps is kept by every turn of every agent. -/
theorem takeTurn_keeps {P : State → Prop} (K : KeptByEveryOperation P) {t : Turn} {s u : State} (hs : P s)
    (h : takeTurn t s = .next u) : P u := by
  cases t with
  | host =>
    rcases hostTurn_next h with ⟨-, rfl⟩ | ⟨-, p, d, rfl | ⟨i, hi⟩⟩
    · exact hs
    · exact K.request _ _ _ hs
    · exact exec_keeps K (K.request _ _ _ hs) hi
  | coreTick => cases h; exact K.coreTick _ hs
  | wdtTick =>
    cases h
    by_cases hx : watchdogExpires s = true
    · rw [wdtTick_expires s hx]; exact K.fullReset _ hs
    · exact K.wdtTick _ hs (by simpa using hx)
  | irq =>
    cases h
    unfold irqTurn
    split
    · exact K.takeIrq _ hs
    · exact hs
  | data d => cases h; exact K.setData _ _ hs
  | other => cases h; exact K.raiseOther _ hs
  | controller w => cases h; exact K.setWires _ _ hs
  | reset => cases h; exact K.fullReset _ hs

/-- A property that every named operation keeps, and that does not speak of the schedule, is kept by every step. -/
theorem step_keeps {P : State → Prop} (K : KeptByEveryOperation P) (hpop : ∀ s, P s → P (popTurn s)) {s t : State}
    (hs : P s) (h : step s = .next t) : P t :=
  takeTurn_keeps K (hpop s hs) h

/-- One more CORE_TICK is a CORE_TICK after the others. -/
theorem coreTicks_succ (n : Nat) (s : State) : coreTicks (n + 1) s = coreTick (coreTicks n s) := by
  induction n generalizing s with
  | zero => rfl
  | succ n ih => exact ih (coreTick s)

/-- One more WDT_TICK is a WDT_TICK after the others. -/
theorem wdtTicks_succ (n : Nat) (s : State) : wdtTicks (n + 1) s = wdtTick (wdtTicks n s) := by
  induction n generalizing s with
  | zero => rfl
  | succ n ih => exact ih (wdtTick s)

/-- Levels one after the other: the last tick sees the last level. -/
theorem dataTicks_append (ds es : List Bool) (s : State) : dataTicks (ds ++ es) s = dataTicks es (dataTicks ds s) := by
  induction ds generalizing s with
  | nil => rfl
  | cons d ds ih => exact ih _

end Sys2Proof.Machine
end

