-- ==== Sys2Proof/Tests/Slice0.lean ====
section
/-! SUPPORT. The model's own tests, with expected results from the spec (95_test_vectors.md, or the rule named), and for
each statement with hypotheses a named witness that meets them. -/

namespace Sys2Proof.Tests

open Sys2Proof Sys2Proof.Machine Sys2Proof.Safety

/-! ### Small states -/

/-- The parameters of the test vectors: S = 2, T_RESP = 1, WAKE_PERIOD = 3, RESET_WINDOW = 8, FAST; with clocks of
2 MHz and 8 Hz, and the vectors 0x10 and 0x20. -/
def demoBuild : Build := ⟨.fast, 2, 3, 8, .wake, 16, 1, 2000000, 8, 0x10, 0x20, 0x00⟩

/-- The reset state of that build, with the DATA pin high. -/
def demo : State := { State.reset with build := demoBuild, vectoredTo := 0x00, dataPin := true }

/-- The next state, if there is one. -/
def nextOf : Result → Option State
  | .next s => some s
  | .fault _ => none
  | .refused _ => none

/-- The state after one fetched word. -/
def after (w : Nat) (s : State) : Option State := nextOf (step (s.withFetchWord 16 w))

/-- What a word returns to the host program. -/
def reads (w : Nat) (s : State) : Option Byte := (after w s).map (·.rdata)

/-- The sequencer at a given point of a read. -/
def inPhase (p : Phase) (k cnt : Nat) (s : State) : State :=
  { s with seq := ⟨p, k, cnt, 0x008#12⟩, latch := p == .latchHold, clock := p != .clkLow }

/-! ### Well-formedness -/

theorem test_wellformed_reserved_command : WellFormed (.wrCmdRsvd 0x03#8) = true := by decide
theorem test_illformed_start_as_reserved : WellFormed (.wrCmdRsvd 0x01#8) = false := by decide
theorem test_illformed_kick_as_reserved : WellFormed (.wrCmdRsvd 0x02#8) = false := by decide

/-! ### Decoding: a word of each row written out from R55 to R60 (CLS, RSV, OFF, DATA or PRIM) -/

theorem test_decode_reads :
    decode 0b0000000000000000#16 = .ok .rdCmd ∧
    decode 0b0000000100000000#16 = .ok .rdStatus ∧
    decode 0b0000001000000000#16 = .ok .rdBtnLo ∧
    decode 0b0000001100000000#16 = .ok .rdBtnHi ∧
    decode 0b0000010000000000#16 = .ok .rdWdtctrl ∧
    decode 0b0000010100000000#16 = .ok .rdRsvd5 ∧
    decode 0b0000011100000000#16 = .ok (.rdRsvd6to7 1#1) ∧
    decode 0b0000101000000000#16 = .ok (.rdRsvd8toF 0b010#3) := by decide

theorem test_decode_writes :
    decode 0b0100000000000001#16 = .ok .wrCmdStart ∧
    decode 0b0100000000000010#16 = .ok .wrCmdKick ∧
    decode 0b0100000000000011#16 = .ok (.wrCmdRsvd 0x03#8) ∧
    decode 0b0100000100000100#16 = .ok (.wrStatus 0x04#8) ∧
    decode 0b0100001011111111#16 = .ok (.wrBtnLo 0xFF#8) ∧
    decode 0b0100001100000000#16 = .ok (.wrBtnHi 0x00#8) ∧
    decode 0b0100010000000011#16 = .ok (.wrWdtctrl 0x03#8) ∧
    decode 0b0100010111111111#16 = .ok (.wrRsvd5 0xFF#8) ∧
    decode 0b0100011000010010#16 = .ok (.wrRsvd6to7 0#1 0x12#8) ∧
    decode 0b0100111100110100#16 = .ok (.wrRsvd8toF 0b111#3 0x34#8) := by decide

theorem test_decode_primitives :
    decode 0b1000000000000000#16 = .ok .cli ∧ decode 0b1000000000000001#16 = .ok .sei ∧
    decode 0b1000000000000010#16 = .ok .sleep ∧ decode 0b1000000000000011#16 = .ok .seiSleep := by decide

/-- V-B11. -/
theorem test_invalid_words :
    decode 0xC000#16 = .error .invalidClass ∧ decode 0x1000#16 = .error .reservedBitsB ∧
    decode 0x3100#16 = .error .reservedBitsB ∧ decode 0x0001#16 = .error .readWithData ∧
    decode 0x01FF#16 = .error .readWithData ∧ decode 0x8004#16 = .error .unknownPrimitive ∧
    decode 0x8100#16 = .error .reservedBitsC ∧ decode 0xBF00#16 = .error .reservedBitsC := by decide

/-- The table has 22 rows, and a word of no row is not an operation. -/
theorem test_table_rows : opcodeTable.length = 22 ∧ decodeTableWord 16 0x4001 = some .wrCmdStart ∧
    decodeTableWord 16 0xC000 = none := by decide

/-- R64, R65. -/
theorem test_spelling : asmText (.wrWdtctrl 0x02#8) = "WR WDT_CTRL, #0x02" ∧ asmText (.rdRsvd8toF 2#3) = "RD @0xA" ∧
    expandPseudo .armWake = [.word 0x4402#16] ∧ controllerValue 0x0A#8 0x81#8 = 0x0A81#16 ∧
    expandPseudo .readController = [.word 0x4001#16, .readWhile 0x1#4 0, .word 0x0200#16, .word 0x0300#16] := by decide

/-- R5: the nominal parameters: 1 µs and 12 µs at 2 MHz, and 30 ms and one second at 100 kHz. -/
theorem test_nominals : demoBuild.nominalSettleCycles = 2 ∧
    { demoBuild with profile := .compatible }.nominalSettleCycles = 24 ∧
    { demoBuild with fWdt := 100000 }.nominalWakePeriod 3 = 3000 ∧
    { demoBuild with fWdt := 100000 }.nominalResetWindow = 100000 := by decide

/-! ### One step each -/

/-- V-B1, V-B7, V-B13. -/
theorem test_reads_at_reset : reads 0x0000 demo = some 0x00#8 ∧ reads 0x0A00 demo = some 0x00#8 ∧
    reads 0x0100 demo = some 0x00#8 ∧
    reads 0x0100 { demo with build := { demoBuild with profile := .compatible } } = some 0x02#8 := by decide

/-- R77, R78: the example BUTTONS = 0x0A81. -/
theorem test_read_buttons : reads 0x0200 { demo with buttons := 0x0A81#16 } = some 0x81#8 ∧
    reads 0x0300 { demo with buttons := 0x0A81#16 } = some 0x0A#8 := by decide

/-- R93: a read in progress with a kick in flight reads 0x09. -/
theorem test_read_status : reads 0x0100 { inPhase .sample 5 0 demo with kkReq := true } = some 0x09#8 := by decide

/-- R67: the example of START from reset. -/
theorem test_start : (after 0x4001 demo).map (fun s => (s.latch, s.clock, s.seq, statusByte s))
    = some (true, true, ⟨.latchHold, 0, 2, 0x000#12⟩, 0x01#8) := by decide

/-- R68: the example of START in SAMPLE with K = 5; it is the state before with the turn and the word gone. -/
theorem test_start_busy : after 0x4001 (inPhase .sample 5 0 demo) = some (inPhase .sample 5 0 demo) := by decide

/-- V-W3, V-W5. -/
theorem test_kick : (after 0x4002 demo).map (fun s => (s.kkReq, statusByte s)) = some (true, 0x08#8) ∧
    after 0x4002 { demo with kkReq := true } = some { demo with kkReq := true } := by decide

/-- V-B3, V-B4, V-B5, V-B6, V-B8, V-B10. -/
theorem test_ignored_writes : after 0x4003 demo = some demo ∧ after 0x4000 demo = some demo ∧
    after 0x42FF demo = some demo ∧ after 0x4300 demo = some demo ∧ after 0x45FF demo = some demo ∧
    after 0x41FB { demo with wakef := true } = some { demo with wakef := true } := by decide

/-- V-B9, V-W9. -/
theorem test_write_wdtctrl : (after 0x44FF demo).map wdtCtrlByte = some 0x03#8 ∧
    (after 0x4400 { demo with wde := true, wie := true }).map wdtCtrlByte = some 0x01#8 := by decide

/-- V-W10; R85. -/
theorem test_write_status : after 0x4104 { demo with wakef := true } = some demo ∧
    reads 0x0400 { demo with wde := true } = some 0x01#8 := by decide

/-- V-C1 to V-C4: what the primitives write. -/
theorem test_primitives : after 0x8000 { demo with gie := true } = some demo ∧
    after 0x8001 demo = some { demo with gie := true } ∧
    after 0x8002 demo = some { demo with sleeping := true } ∧
    after 0x8003 demo = some { demo with gie := true, sleeping := true } := by decide

/-- V-C1, V-C3: a word waits while an enabled interrupt is pending, and while the core sleeps. -/
theorem test_host_waits :
    (after 0x0100 { demo with gie := true, wakef := true }).map (·.prog) = some [.word 0x0100#16] ∧
    (after 0x0100 { demo with sleeping := true }).map (·.prog) = some [.word 0x0100#16] := by decide

/-- V-C2, V-C5; R126 for the vectors. -/
theorem test_irq :
    takeIrq { demo with gie := true, sleeping := true, wakef := true }
      = { demo with gie := true, vectoredTo := 0x10 } ∧
    takeIrq { demo with gie := true, sleeping := true, otherPend := true }
      = { demo with gie := true, vectoredTo := 0x20 } := by decide

/-- V-R1, ticks 2, 3, 5 and 38. -/
theorem test_sequencer :
    (coreTick (inPhase .latchHold 0 1 demo)).latch = false ∧
    (coreTick { inPhase .sample 3 0 demo with dsync2 := false }).seq = ⟨.clkLow, 3, 2, 0x008#12⟩ ∧
    (coreTick { inPhase .sample 3 0 demo with dsync2 := true }).seq = ⟨.clkLow, 3, 2, 0x000#12⟩ ∧
    (coreTick (inPhase .clkLow 0 1 demo)).seq = ⟨.sample, 1, 0, 0x008#12⟩ ∧
    (coreTick (inPhase .clkLow 11 1 demo)).buttons = 0x0008#16 ∧
    (coreTick (inPhase .clkLow 11 1 demo)).seq.phase = .idle := by decide

/-- V-W1 step 10, V-W2 step 10. -/
theorem test_wake_delivery :
    (fun s => (s.wkAck, s.wakef, s.wie)) (coreTick { demo with wkR2 := true, wie := true }) = (true, true, false) ∧
    (fun s => (s.wkAck, s.wakef, s.wie)) (coreTick { demo with wkR2 := true }) = (true, false, false) := by decide

/-- V-W1 step 5; V-W8; R90's example, RESET_WINDOW = 8. -/
theorem test_wdt_tick :
    (wdtTick { demo with wdt := { Wdt.reset with wcnt := 2 } }).wdt.req = true ∧
    (wdtTick { demo with wdt := { Wdt.reset with e2 := true, rcnt := 7, k2 := true } }).wdt.rcnt = 0 ∧
    watchdogExpires { demo with wdt := { Wdt.reset with e2 := true, rcnt := 7 } } = true ∧
    watchdogExpires { demo with wdt := { Wdt.reset with e2 := true, rcnt := 6 } } = false := by decide

/-- R80: on a falling CLOCK the reference controller presents its next button; past the last the pin is free. -/
theorem test_reference_controller :
    (drivePins false false { demo with clock := true, controller := some ⟨0#12, 0#12, 2, 9⟩ }).controller
      = some ⟨0#12, 0#12, 3, 0⟩ ∧
    dataLevel { demo with controller := some ⟨0xFF7#12, 0xFF7#12, 3, 0⟩ } = false ∧
    dataLevel { demo with controller := some ⟨0xFF7#12, 0x000#12, 12, 0⟩ } = true := by decide

/-- V-B12 and R42: a two-byte access of the window's first byte is refused; one that ends below it is not the block's;
and the window's edges are offsets 0x0 and 0xF. -/
theorem test_bus_access :
    runAccess ⟨15, 2, none⟩ demo = .refused (.accessWidth 2) ∧ runAccess ⟨14, 2, none⟩ demo = .next demo ∧
    runAccess ⟨32, 1, some 1#8⟩ demo = .next demo ∧
    offsetOf demoBuild 16 = 0x0#4 ∧ offsetOf demoBuild 31 = 0xF#4 := ⟨rfl, rfl, rfl, by decide, by decide⟩

/-! ### Witnesses: for each statement with hypotheses, what meets them -/

theorem witness_DecodeOfEncode : WellFormed (.wrCmdRsvd 0xFF#8) = true ∧ WellFormed (.rdRsvd8toF 7#3) = true := by decide

theorem witness_EncodeOfDecode : decode 0x4FFF#16 = .ok (.wrRsvd8toF 7#3 0xFF#8) := by decide

theorem witness_InvalidWordsAndWidthsAreRefused :
    (demo.build.base ≤ 16 ∧ 16 < demo.build.base + 16) ∧ (demo.build.base ≤ 31 ∧ 31 < demo.build.base + 16) := by decide

theorem witness_ValidWordsAreTheTableRows : decode 0x40FF#16 = .ok (.wrCmdRsvd 0xFF#8) := by decide

/-- A state at a HOST turn with a word queued. -/
def atHost (w : Word) (s : State) : State := { s with turns := [.host], prog := [.word w] }

theorem witness_StepRunsTheDecodedOperation : (atHost 0x8003#16 demo).turns = .host :: [] ∧
    (atHost 0x8003#16 demo).prog = .word 0x8003#16 :: [] ∧ hostEnabled (atHost 0x8003#16 demo) = true ∧
    decode 0x8003#16 = .ok .seiSleep := by decide

theorem witness_OnlyInvalidRequestsStop :
    (∀ w rest, (atHost 0x0100#16 demo).prog = .word w :: rest → ∃ i, decode w = .ok i) ∧
    (∀ a rest, (atHost 0x0100#16 demo).prog = .access a :: rest → a.bytes = 1 ∨ touches demo.build a = false) := by
  refine ⟨fun w rest h => ?_, fun a rest h => by cases h⟩
  cases h
  exact ⟨.rdStatus, by decide⟩

theorem witness_HostRunsOnlyWhenEnabled :
    (nextTurn (atHost 0x8000#16 demo) = .host ∧ decode 0x8000#16 = .ok .cli ∧ hostEnabled demo = true) ∧
    (nextTurn (atHost 0x8000#16 { demo with gie := true, otherPend := true }) = .host ∧
      hostEnabled { demo with gie := true, otherPend := true } = false) ∧
    hostEnabled { demo with prog := [.access ⟨17, 1, none⟩], turns := [.host] } = true ∧
    hostEnabled { demo with prog := [.readWhile 0x1#4 0], turns := [.host] } = true ∧
    nextTurn { demo with turns := [.host] } = .host := by decide

/-- A state at a given turn. -/
def atTurn (t : Turn) (s : State) : State := { s with turns := [t] }

theorem witness_IrqTakesOnePendingSource :
    nextTurn (atTurn .irq demo) = .irq ∧ irqEnabled demo = false ∧
    irqEnabled { demo with gie := true, wakef := true } = true ∧
    irqEnabled { demo with gie := true, otherPend := true } = true ∧
    irqEnabled { demo with gie := true, wakef := true, otherPend := true } = true ∧ demo.build.irqPriority = .wake ∧
    { demo with build := { demoBuild with irqPriority := .other } }.build.irqPriority = .other := by decide

theorem witness_EitherIrqOrderEndsAlike : ∃ s : State, s.gie = true ∧ s.wakef = true ∧ s.otherPend = true :=
  ⟨{ demo with gie := true, wakef := true, otherPend := true }, by decide⟩

theorem witness_ButtonReadsSplitTheBitmap : ({ demo with buttons := 0x0FFF#16 }).buttons.extractLsb' 12 4 = 0#4 := by decide

theorem witness_IgnoredWritesChangeNothing : WellFormed (.wrCmdRsvd 0x00#8) = true ∧ WellFormed (.wrBtnLo 0xFF#8) = true ∧
    WellFormed (.wrRsvd8toF 7#3 0xFF#8) = true := by decide

theorem witness_StartBeginsARead : demo.seq.phase = .idle ∧ (0x4#4 : Offset) ≠ 0x1#4 := by decide

theorem witness_StartWhileBusyIsIgnored : (inPhase .clkLow 11 1 demo).seq.phase ≠ .idle := by decide

theorem witness_KickDepartsOrMerges : demo.kkReq = demo.kkA2 ∧
    ({ demo with kkReq := true }).kkReq ≠ ({ demo with kkReq := true }).kkA2 := by decide

theorem witness_WdtCtrlWriteSetsItsEnables : (0xFF#8).getLsbD 0 = (0x03#8).getLsbD 0 ∧
    (0xFF#8).getLsbD 1 = (0x03#8).getLsbD 1 ∧ (0x1#4 : Offset) ≠ 0x4#4 := by decide

theorem witness_StatusWriteClearsWake : (0x04#8).getLsbD 2 = true ∧ (0xFB#8).getLsbD 2 = false := by decide

theorem witness_HostOperationsLeaveOtherRegisters : exec .sei demo = .next { demo with gie := true } ∧
    Instr.sei ≠ .wrCmdStart ∧ Instr.sei ≠ .wrCmdKick ∧ (∀ d, Instr.sei ≠ .wrStatus d) ∧
    (∀ d, Instr.sei ≠ .wrWdtctrl d) ∧ (0xF#4 : Offset) ≠ 0x1#4 :=
  ⟨rfl, by decide, by decide, (fun _ h => nomatch h), (fun _ h => nomatch h), by decide⟩

theorem witness_HostOperationsStayInTheCoreDomain : exec .wrCmdKick demo = .next { demo with kkReq := true } := rfl

theorem witness_CoreTickShiftsSynchronisersAndLeavesTheRest : demo.controller = none ∧
    (∃ r : Controller, demo.build.tResp ≤ r.age + 1 ∧ r.pos < 12) ∧
    (∃ r : Controller, r.age + 1 < ({ demoBuild with tResp := 2 }).tResp) ∧ (∃ r : Controller, 12 ≤ r.pos) :=
  ⟨by decide, ⟨⟨0, 0, 11, 0⟩, by decide⟩, ⟨⟨0, 0, 0, 0⟩, by decide⟩, ⟨⟨0, 0, 12, 0⟩, by decide⟩⟩

theorem witness_CoreTickDeliversAWake : ({ demo with wkR2 := true }).wkR2 ≠ ({ demo with wkR2 := true }).wkAck ∧
    ({ demo with wie := true }).wie = true ∧ demo.wie = false ∧ demo.wkR2 = demo.wkAck := by decide

theorem witness_CoreTickIdleAndLatchHold : demo.seq.phase = .idle ∧
    (inPhase .latchHold 0 1 demo).seq.phase = .latchHold ∧ 1 ≤ (inPhase .latchHold 0 1 demo).seq.cnt := by decide

theorem witness_CoreTickSamplesOneBit : (inPhase .sample 11 0 demo).seq.phase = .sample ∧
    (inPhase .sample 11 0 demo).seq.k ≤ 11 := by decide

theorem witness_CoreTickRaisesClockAndCommits :
    ((inPhase .clkLow 10 1 demo).seq.phase = .clkLow ∧ (inPhase .clkLow 10 1 demo).seq.cnt = 1 ∧
      (inPhase .clkLow 10 1 demo).seq.k ≠ 11) ∧
    ((inPhase .clkLow 11 1 demo).seq.cnt = 1 ∧ (inPhase .clkLow 11 1 demo).seq.k = 11) ∧
    (1 ≤ (inPhase .clkLow 11 2 demo).seq.cnt ∧ (inPhase .clkLow 11 2 demo).seq.cnt ≠ 1) := by decide

/-- V-W11, V-W12. -/
theorem witness_AccessThenTickDeliversOrDrops : ∃ s t u v : State, s.wkR2 ≠ s.wkAck ∧ s.wie = true ∧
    (0x04#8).getLsbD 2 = true ∧ exec (.wrStatus 0x04#8) s = .next t ∧
    (0x00#8).getLsbD 1 = false ∧ exec (.wrWdtctrl 0x00#8) s = .next u ∧ exec (decodeRead 0x1#4) s = .next v :=
  ⟨{ demo with wkR2 := true, wie := true, wakef := true }, _, _, _, by decide, by decide, by decide, rfl, by decide, rfl,
   rfl⟩

theorem witness_WdtTickMovesItsDomain : watchdogExpires demo = false ∧
    (∃ s : State, s.wdt.e2 = true ∧ s.wdt.k2 = s.wdt.kack ∧ s.wdt.rcnt + 1 < s.build.resetWindow) ∧
    (∃ s : State, s.wdt.e2 = true ∧ s.wdt.k2 ≠ s.wdt.kack ∧ s.build.resetWindow ≤ s.wdt.rcnt + 1) :=
  ⟨by decide, ⟨{ demo with wdt := { Wdt.reset with e2 := true, rcnt := 6 } }, by decide⟩,
   ⟨{ demo with wdt := { Wdt.reset with e2 := true, k2 := true, rcnt := 7 } }, by decide⟩⟩

/-- The watchdog domain at the last tick of the window. -/
def lastTick : State := { demo with wde := true, wdt := { Wdt.reset with e1 := true, e2 := true, rcnt := 7 } }

theorem witness_WatchdogResetIsAFullReset : lastTick.wdt.e2 = true ∧ lastTick.wdt.k2 = lastTick.wdt.kack ∧
    lastTick.build.resetWindow ≤ lastTick.wdt.rcnt + 1 := by decide

theorem witness_ResetLeavesTheListedValues : (fullReset lastTick).build.profile = .fast ∧
    (fullReset { demo with build := { demoBuild with profile := .compatible } }).build.profile = .compatible := by decide

theorem reader_ok_demo : ReaderOk demo ∧ ReaderOk (inPhase .clkLow 11 1 { demo with clock := false }) ∧ demo.build.Legal := by
  decide

theorem witness_EveryStepKeepsTheReader : demo.build.Legal ∧ ReaderOk (atTurn .coreTick (inPhase .clkLow 11 1 demo)) ∧
    ∃ t, step (atTurn .coreTick (inPhase .clkLow 11 1 demo)) = .next t := ⟨by decide, by decide, _, rfl⟩

theorem witness_EveryStepKeepsOneWakeInFlight :
    WakeOk (atTurn .coreTick { demo with wdt := { Wdt.reset with req := true } }) ∧
    ∃ t, step (atTurn .coreTick { demo with wdt := { Wdt.reset with req := true } }) = .next t := ⟨by decide, _, rfl⟩

theorem witness_EveryStepKeepsOneKickInFlight : KickOk (atTurn .wdtTick { demo with kkReq := true }) ∧
    ∃ t, step (atTurn .wdtTick { demo with kkReq := true }) = .next t := ⟨by decide, _, rfl⟩

theorem witness_EveryStepKeepsTheWatchdog : lastTick.build.Legal ∧ WdtOk (atTurn .wdtTick lastTick) ∧
    ∃ t, step (atTurn .wdtTick lastTick) = .next t := ⟨by decide, by decide, _, rfl⟩

theorem controller_ok_demo : ControllerOk { demo with controller := some ⟨0xFF7#12, 0xFF7#12, 3, 0⟩ } := by
  intro r hr
  cases hr
  decide

theorem witness_EveryStepKeepsTheController :
    ControllerOk (atTurn .coreTick { demo with controller := some ⟨0xFF7#12, 0xFF7#12, 12, 0⟩ }) ∧
    ∃ t, step (atTurn .coreTick { demo with controller := some ⟨0xFF7#12, 0xFF7#12, 12, 0⟩ }) = .next t := by
  refine ⟨fun r hr => ?_, _, rfl⟩
  cases hr
  decide

theorem witness_NoStepChangesTheBuild : ∃ t, step (atTurn .reset demo) = .next t := ⟨_, rfl⟩

/-- A WDT_TICK at which a wake event departs, with WDE set. -/
def atExpiry : State := atTurn .wdtTick { demo with wde := true, wdt := { Wdt.reset with wcnt := 2 } }

theorem witness_RequestsToggleOnlyWhenAcknowledged : (∃ t, step atExpiry = .next t ∧ t.wdt.req ≠ atExpiry.wdt.req) ∧
    ¬ Resets (nextTurn atExpiry) atExpiry ∧
    (∃ t, step (atHost 0x4002#16 demo) = .next t ∧ t.kkReq ≠ demo.kkReq) :=
  ⟨⟨_, rfl, by decide⟩, by decide, ⟨_, rfl, by decide⟩⟩

theorem witness_WdeStaysSetUntilReset : (∃ t, step atExpiry = .next t) ∧ ¬ Resets (nextTurn atExpiry) atExpiry ∧
    atExpiry.wde = true := ⟨⟨_, rfl⟩, by decide, by decide⟩

theorem witness_ButtonsHaveOneWriter : ∃ t, step (atTurn .coreTick (inPhase .clkLow 11 1 demo)) = .next t ∧
    t.buttons ≠ (atTurn .coreTick (inPhase .clkLow 11 1 demo)).buttons := ⟨_, rfl, by decide⟩

theorem witness_PinsMoveOnlyInARead : ∃ t, step (atHost 0x4001#16 demo) = .next t ∧ t.latch ≠ demo.latch :=
  ⟨_, rfl, by decide⟩

theorem witness_WakefIsSetOnlyByAnArmedDelivery :
    ∃ t, step (atTurn .coreTick { demo with wkR2 := true, wie := true }) = .next t ∧ demo.wakef = false ∧
      t.wakef = true := ⟨_, rfl, by decide, by decide⟩

theorem witness_StuckSleepEndsOnlyByReset : Stuck (atTurn .irq { demo with sleeping := true, wakef := true }) ∧
    (∃ t, step (atTurn .irq { demo with sleeping := true, wakef := true }) = .next t) ∧
    ¬ Resets (nextTurn (atTurn .irq { demo with sleeping := true, wakef := true })) demo :=
  ⟨by decide, ⟨_, rfl⟩, by decide⟩

theorem witness_SeiThenSleepMissesTheWake : ∃ s : State, s.gie = false ∧ s.sleeping = false ∧ s.wakef = true ∧
    s.otherPend = false := ⟨{ demo with wakef := true }, by decide⟩

theorem witness_SleepKeepsTheBlock : ∃ s t : State, s.sleeping = true ∧ step s = .next t ∧ ¬ Resets (nextTurn s) s ∧
    nextTurn s ≠ .coreTick ∧ nextTurn s ≠ .wdtTick ∧ nextTurn s ≠ .irq :=
  ⟨atTurn (.controller (some 0xFF7#12)) { demo with sleeping := true }, _, by decide, rfl, by decide, by decide,
   by decide, by decide⟩

theorem witness_AReadCommitsItsTwelveSamples : ∃ (t : State) (ds : List Bool), demo.build.Legal ∧
    demo.seq.phase = .idle ∧ demo.controller = none ∧ exec .wrCmdStart demo = .next t ∧
    ds.length = commitAt demo.build.settleCycles :=
  ⟨_, List.replicate 38 true, by decide, by decide, by decide, rfl, by decide⟩

/-- V-R1: the first and last sample, rise and commit ticks at S = 2. -/
theorem witness_PinTraceOfOneRead : demo.build.Legal ∧ demo.seq.phase = .idle ∧
    (∃ t, exec .wrCmdStart demo = .next t) ∧ sampleAt 2 0 = 3 ∧ riseAt 2 0 = 5 ∧ sampleAt 2 11 = 36 ∧
    riseAt 2 11 = commitAt 2 ∧ commitAt 2 = 38 := ⟨by decide, by decide, ⟨_, rfl⟩, by decide⟩

/-- V-R11: valid at the boundary S = T_RESP + 1. -/
theorem witness_SettledControllerIsReadExactly : ∃ (s t : State) (r : Controller) (ds : List Bool), s.build.Legal ∧
    s.build.tResp + 1 ≤ s.build.settleCycles ∧ s.seq.phase = .idle ∧ s.controller = some r ∧
    exec .wrCmdStart s = .next t ∧ ds.length = commitAt s.build.settleCycles :=
  ⟨{ demo with controller := some ⟨0xFF7#12, 0xFF7#12, 12, 0⟩ }, _, _, List.replicate 38 true, by decide, by decide,
   by decide, rfl, rfl, by decide⟩

theorem witness_WatchdogFiresAtWindowPlusTwo : ∃ (s : State), s.build.Legal ∧ s.wde = true ∧ s.wdt.e1 = false ∧
    s.wdt.e2 = false ∧ s.wdt.rcnt = 0 ∧ s.kkReq = s.wdt.k1 ∧ s.wdt.k1 = s.wdt.k2 ∧ s.wdt.k2 = s.wdt.kack ∧
    9 ≤ s.build.resetWindow + 1 := ⟨{ demo with wde := true }, by decide⟩

theorem witness_KickArrivesAtTheThirdTick : ∃ t, demo.kkReq = demo.kkA2 ∧ demo.wdt.k1 = demo.kkReq ∧
    demo.wdt.k2 = demo.kkReq ∧ demo.wdt.kack = demo.kkReq ∧ demo.wdt.rcnt + 2 < demo.build.resetWindow ∧
    demo.kkA1 = demo.kkA2 ∧ exec .wrCmdKick demo = .next t :=
  ⟨_, by decide, by decide, by decide, by decide, by decide, by decide, rfl⟩

theorem witness_WakeArrivesAtTheThirdTick : ∃ s : State, s.wkR1 ≠ s.wdt.req ∧ s.wkR2 = s.wkR1 ∧ s.wkAck = s.wkR1 ∧
    s.wie = true := ⟨{ demo with wie := true, wdt := { Wdt.reset with req := true } }, by decide⟩

/-- A run of nothing but core ticks, from the last tick of a read. -/
theorem witness_FairRunsEndEveryRead : ∃ (sched : Nat → Turn) (run : Nat → State), IsRun sched run ∧
    WeaklyFair sched run .coreTick coreTickOwed ∧ (run 0).build.Legal ∧ ReaderOk (run 0) ∧
    (∀ m, 0 ≤ m → coreTickOwed (run m)) ∧ (run 0).seq.phase ≠ .idle := by
  refine ⟨fun _ => .coreTick, fun n => coreTicks n (inPhase .clkLow 11 1 demo), fun n => ?_, fun n _ => ⟨n, le_rfl, rfl⟩,
    by decide, by decide, fun m _ => .inl ?_, by decide⟩
  · beta_reduce
    rw [coreTicks_succ]
    rfl
  · show (coreTicks m (inPhase .clkLow 11 1 demo)).sleeping = false
    induction m with
    | zero => rfl
    | succ m ih => rw [coreTicks_succ, coreTick_sleeping]; exact ih (Nat.zero_le m)

/-- A run of nothing but WDT ticks, from a state with WDE just set and KK_REQ = 1, which the reset that comes clears. -/
theorem witness_AStalledHostIsReset : ∃ (sched : Nat → Turn) (run : Nat → State), IsRun sched run ∧
    WeaklyFair sched run .wdtTick (fun _ => True) ∧ (run 0).build.Legal ∧ (run 0).wde = true ∧ (run 0).kkReq = true ∧
    (∀ m, 0 ≤ m → (∀ j, 0 ≤ j → j < m → ¬ Resets (sched j) (run j)) → (run m).kkReq = (run 0).kkReq) := by
  refine ⟨fun _ => .wdtTick, fun n => wdtTicks n { demo with wde := true, kkReq := true }, fun n => ?_,
    fun n _ => ⟨n, le_rfl, rfl⟩, by decide, by decide, by decide, fun m _ => ?_⟩
  · beta_reduce
    rw [wdtTicks_succ]
    rfl
  · show _ → (wdtTicks m { demo with wde := true, kkReq := true }).kkReq = true
    induction m with
    | zero => exact fun _ => rfl
    | succ m ih =>
      intro h
      have hx : watchdogExpires (wdtTicks m { demo with wde := true, kkReq := true }) = false := by
        simpa [Resets] using h m (Nat.zero_le m) (Nat.lt_succ_self m)
      rw [wdtTicks_succ, wdtTick_eq _ hx]
      exact ih (Nat.zero_le m) fun j h0 hj => h j h0 (Nat.lt_succ_of_lt hj)

theorem witness_AccessesReachingTheWindowAreRefused :
    (2 ≠ 1 ∧ 31 < demo.build.base + 16 ∧ demo.build.base < 31 + max 2 1) ∧
    (2 ≠ 1 ∧ 15 < demo.build.base + 16 ∧ demo.build.base < 15 + max 2 1) ∧
    (0 ≠ 1 ∧ 16 < demo.build.base + 16 ∧ demo.build.base < 16 + max 0 1) ∧
    demo.build.base + 16 ≤ 32 ∧ 14 + max 2 1 ≤ demo.build.base := by decide

/-- What READ_CONTROLLER still asks for after its START. -/
def polling (s : State) : State :=
  { s with prog := (expandPseudo .readController).tail, turns := [.host, .host, .host] }

theorem witness_ReadControllerPollsAndReturnsButtons :
    (hostEnabled (polling (inPhase .sample 5 0 demo)) = true ∧ (inPhase .sample 5 0 demo).seq.phase ≠ .idle) ∧
    (hostEnabled (polling demo) = true ∧ demo.seq.phase = .idle) ∧
    (polling demo).prog = (expandPseudo .readController).tail ++ [] ∧
    (polling demo).turns = .host :: .host :: .host :: [] := by decide

/-- R65: the loop polls again while BUSY reads 1, and goes on at once when it reads 0. -/
theorem test_poll_loop :
    (nextOf (step (polling (inPhase .sample 5 0 demo)))).map (fun s => (s.prog.length, s.rdata)) = some (3, 0x01#8) ∧
    (nextOf (step (polling demo))).map (fun s => (s.prog.length, s.rdata)) = some (2, 0x00#8) := by decide

theorem witness_SleepEndsOnlyByInterruptOrReset :
    ∃ t, step (atTurn .irq { demo with gie := true, sleeping := true, wakef := true }) = .next t ∧
      t.sleeping = false := ⟨_, rfl, by decide⟩

theorem witness_EnvironmentTurnsMoveOnlyTheEnvironment :
    nextTurn (atTurn (.data false) demo) = .data false ∧ nextTurn (atTurn .other demo) = .other ∧
    nextTurn (atTurn (.controller none) demo) = .controller none ∧
    nextTurn (atTurn (.controller (some 0xFF7#12)) demo) = .controller (some 0xFF7#12) ∧ demo.controller = none ∧
    (∃ r, { demo with controller := some ⟨0xFFF#12, 0xFFF#12, 12, 0⟩ }.controller = some r) :=
  ⟨rfl, rfl, rfl, rfl, rfl, _, rfl⟩

end Sys2Proof.Tests
end

/-! ## Proofs of the scope's statements: what a step runs, the build, an access before a tick, and the two runs. -/

namespace Sys2Proof.Proofs

open Sys2Proof Sys2Proof.Machine Sys2Proof.Safety

/-! ### The build, and the decoded operation -/

/-- No named operation touches the parameters. -/
theorem build_kept (b : Build) : KeptByEveryOperation (fun s => s.build = b) where
  coreTick s h := by simpa using h
  wdtTick s h hx := by simpa [wdtTick_eq s hx] using h
  fullReset s h := by simpa using h
  returnByte v s h := by simpa using h
  startRead s h _ := by simpa using h
  departKick s h := by simpa using h
  writeStatus d s h := by simpa using h
  writeWdtCtrl d s h := by simpa using h
  gate s g z h := h
  request s p d h := h
  takeIrq s h := by simpa [takeIrq] using h
  setData d s h := by simpa using h
  raiseOther s h := by simpa using h
  setWires w s h := by simpa using h

theorem takeTurn_build {t : Turn} {s u : State} (h : takeTurn t s = .next u) : u.build = s.build :=
  takeTurn_keeps (build_kept s.build) rfl h

/-- Settles O40: every named operation keeps the build, so every step does. -/
theorem noStepChangesTheBuild : Obligations.NoStepChangesTheBuild := by
  intro s t h
  exact step_keeps (build_kept s.build) (fun u hu => (popTurn_build u).trans hu) rfl h

theorem runWord_of_decode {w : Word} {i : Instr} (hd : decode w = .ok i) (s : State) : runWord w s = exec i s := by
  simp only [runWord, hd]

/-- A scheduled HOST turn that may run performs the operation of the oldest word. -/
theorem step_word {s : State} {ts : List Turn} {w : Word} {rest : List Request} {i : Instr}
    (ht : s.turns = .host :: ts) (hp : s.prog = .word w :: rest) (he : hostEnabled s = true)
    (hd : decode w = .ok i) : step s = exec i { s with turns := ts, prog := rest } :=
  (step_request ht he hp).trans (runWord_of_decode hd _)

/-- A word placed as sixteen bits is the word that stands first in the queue. -/
theorem withFetchWord_prog (s : State) (w : Word) : (s.withFetchWord 16 w.toNat).prog = .word w :: s.prog := by
  have hw : w.toNat % 2 ^ 16 = w.toNat := Nat.mod_eq_of_lt w.isLt
  simp only [State.withFetchWord, hw, BitVec.ofNat_toNat, BitVec.setWidth_eq]

/-- Settles O6: by what a step does with the oldest word; a fetched word and its turn stand first in their queues. -/
theorem stepRunsTheDecodedOperation : Obligations.StepRunsTheDecodedOperation := by
  refine ⟨fun s ts w rest i ht hp he hd => step_word ht hp he hd, fun s w i he hd => ?_⟩
  exact step_word (ts := s.turns) rfl (withFetchWord_prog s w) he hd

/-! ### An access, then a tick -/

theorem wakeDeliveryTick_returnByte (v : Byte) (old s : State) :
    wakeDeliveryTick (returnByte v old) (returnByte v s) = returnByte v (wakeDeliveryTick old s) := by
  simp only [wakeDeliveryTick, apply_ite (returnByte v)]
  rfl

theorem latchHoldTick_returnByte (v : Byte) (old s : State) :
    latchHoldTick (returnByte v old) (returnByte v s) = returnByte v (latchHoldTick old s) := by
  simp only [latchHoldTick, apply_ite (returnByte v)]
  rfl

theorem clkLowTick_returnByte (v : Byte) (old s : State) :
    clkLowTick (returnByte v old) (returnByte v s) = returnByte v (clkLowTick old s) := by
  simp only [clkLowTick, apply_ite (returnByte v)]
  rfl

theorem seqTick_returnByte (v : Byte) (old s : State) :
    seqTick (returnByte v old) (returnByte v s) = returnByte v (seqTick old s) := by
  simp only [seqTick, returnByte_seq]
  cases old.seq.phase with
  | idle | sample => rfl
  | latchHold => exact latchHoldTick_returnByte v old s
  | clkLow => exact clkLowTick_returnByte v old s

/-- No part of a CORE_TICK reads or writes the byte that the host was returned. -/
theorem coreTick_returnByte (v : Byte) (s : State) : coreTick (returnByte v s) = returnByte v (coreTick s) := by
  calc coreTick (returnByte v s)
      = seqTick (returnByte v s) (responseTick (dataSyncTick s
          (wakeDeliveryTick (returnByte v s) (returnByte v (coreSyncTick s s))))) := rfl
    _ = seqTick (returnByte v s) (returnByte v (responseTick (dataSyncTick s
          (wakeDeliveryTick s (coreSyncTick s s))))) := by rw [wakeDeliveryTick_returnByte]; rfl
    _ = returnByte v (coreTick s) := seqTick_returnByte v s _

/-- Settles O30: the tick reads WIE and WAKEF as the access left them, and the handshake as it was. -/
theorem accessThenTickDeliversOrDrops : Obligations.AccessThenTickDeliversOrDrops := by
  intro s t d off
  refine ⟨fun hne hi hd h => ?_, fun hne hd h => ?_, fun h => ?_⟩
  · cases h
    have ha : wakeArrives (writeStatus d s) = true := by simpa [wakeArrives] using hne
    simp [ha, hi]
  · cases h
    have ha : wakeArrives (writeWdtCtrl d s) = true := by simpa [wakeArrives] using hne
    simp [ha, hd, -BitVec.getLsbD_eq_getElem]
  · rw [exec_decodeRead] at h
    cases h
    exact ⟨rfl, coreTick_returnByte _ s⟩

/-! ### Progress in a fair run -/

/-- What every named operation keeps holds at every later point of a run. -/
theorem run_keeps {P : State → Prop} (K : KeptByEveryOperation P) {sched : Nat → Turn} {run : Nat → State}
    (hrun : IsRun sched run) {n : Nat} (hn : P (run n)) {m : Nat} (hm : n ≤ m) : P (run m) := by
  induction m, hm using Nat.le_induction with
  | base => exact hn
  | succ m _ ih => exact takeTurn_keeps K ih (hrun m)

theorem run_coreTick {sched : Nat → Turn} {run : Nat → State} (hrun : IsRun sched run) {m : Nat}
    (ht : sched m = .coreTick) : run (m + 1) = coreTick (run m) := by
  have h := hrun m
  rw [ht] at h
  exact (Host.Outcome.next.inj h).symm

theorem run_wdtTick {sched : Nat → Turn} {run : Nat → State} (hrun : IsRun sched run) {m : Nat}
    (ht : sched m = .wdtTick) : run (m + 1) = wdtTick (run m) := by
  have h := hrun m
  rw [ht] at h
  exact (Host.Outcome.next.inj h).symm

/-- The rule of progress: where a turn is owed all along, a measure that no step raises and that turn lowers, until the
goal is met, leads to the goal. -/
theorem fair_run_reaches {sched : Nat → Turn} {run : Nat → State} {t : Turn} {owed : State → Prop} {n : Nat}
    (hfair : WeaklyFair sched run t owed) (howed : ∀ m, n ≤ m → owed (run m))
    (goal : Nat → Prop) (left : State → Nat)
    (hle : ∀ m, n ≤ m → ¬ goal m → left (run (m + 1)) ≤ left (run m))
    (hlt : ∀ m, n ≤ m → ¬ goal m → sched m = t → left (run (m + 1)) < left (run m)) : ∃ m, n ≤ m ∧ goal m := by
  by_contra hno
  replace hno : ∀ m, n ≤ m → ¬ goal m := fun m hm hg => hno ⟨m, hm, hg⟩
  have falls {m k : Nat} (hm : n ≤ m) (hk : m ≤ k) : left (run k) ≤ left (run m) := by
    induction k, hk using Nat.le_induction with
    | base => exact le_rfl
    | succ k hk ih => exact (hle k (hm.trans hk) (hno k (hm.trans hk))).trans ih
  have never (c : Nat) : ∀ m, n ≤ m → left (run m) ≠ c := by
    induction c using Nat.strong_induction_on with
    | _ c ih =>
      rintro m hm rfl
      obtain ⟨k, hk, ht⟩ := hfair m fun j hj => howed j (hm.trans hj)
      have hnk : n ≤ k := hm.trans hk
      exact ih _ ((hlt k hnk (hno k hnk) ht).trans_le (falls hm hk)) (k + 1) (hnk.trans k.le_succ) rfl
  exact never _ n le_rfl rfl

/-! ### A read in progress comes to its end -/

/-- How many CORE_TICKs a read in progress may still take, at most: two more than the settle delay for each button to
come, and what is left of the present delay. -/
def readLeft (s : State) : Nat :=
  match s.seq.phase with
  | .idle => 0
  | .latchHold => s.seq.cnt + 1 + 12 * (s.build.settleCycles + 2)
  | .sample => (12 - s.seq.k) * (s.build.settleCycles + 2)
  | .clkLow => s.seq.cnt + 1 + (11 - s.seq.k) * (s.build.settleCycles + 2)

theorem readLeft_of_idle {s : State} (h : s.seq.phase = .idle) : readLeft s = 0 := by
  simp only [readLeft, h]

theorem readLeft_congr {s u : State} (hq : u.seq = s.seq) (hb : u.build = s.build) : readLeft u = readLeft s := by
  simp only [readLeft, hq, hb]

/-- The button number stays within the twelve: the tick that would pass the last one ends the read. -/
theorem buttonNumber_kept : KeptByEveryOperation (fun s => s.seq.k ≤ 11) where
  coreTick s h := by
    rcases coreTick_seq s with ⟨-, e, -⟩ | ⟨-, -, e, -⟩ | ⟨-, -, e, -⟩ | ⟨-, e, -⟩ | ⟨-, -, e, -⟩ |
      ⟨-, -, hk, e, -⟩ | ⟨-, -, -, e, -⟩ <;> simp only [e] <;> omega
  wdtTick s h hx := by simpa [wdtTick_eq s hx] using h
  fullReset s h := by simp [Seq.reset]
  returnByte v s h := by simpa using h
  startRead s h _ := by simp
  departKick s h := by simpa using h
  writeStatus d s h := by simpa using h
  writeWdtCtrl d s h := by simpa using h
  gate s g z h := h
  request s p d h := h
  takeIrq s h := by simpa [takeIrq] using h
  setData d s h := by simpa using h
  raiseOther s h := by simpa using h
  setWires w s h := by simpa using h

/-- Each CORE_TICK of a read in progress leaves less of it. -/
theorem readLeft_coreTick_lt {s : State} (hk : s.seq.k ≤ 11) (hp : s.seq.phase ≠ .idle) :
    readLeft (coreTick s) < readLeft s := by
  have hbutton : (12 - s.seq.k) * (s.build.settleCycles + 2)
      = (11 - s.seq.k) * (s.build.settleCycles + 2) + s.build.settleCycles + 2 := by
    rw [show 12 - s.seq.k = (11 - s.seq.k) + 1 by omega]
    ring
  have hall : (12 - s.seq.k) * (s.build.settleCycles + 2) ≤ 12 * (s.build.settleCycles + 2) :=
    Nat.mul_le_mul_right _ (Nat.sub_le _ _)
  rcases coreTick_seq s with ⟨h, -⟩ | ⟨h, -, e, -⟩ | ⟨h, hc, e, -⟩ | ⟨h, e, -⟩ | ⟨h, hc, e, -⟩ | ⟨h, -, -, e, -⟩ |
      ⟨h, -, -, e, -⟩
  · exact absurd h hp
  all_goals
    simp only [readLeft, e, h, coreTick_build, Nat.reduceSubDiff]
    omega

/-- No host operation reaches the watchdog's clock domain, clears WDE, or moves a read in progress. -/
theorem exec_between {i : Instr} {s t : State} (h : exec i s = .next t) :
    t.wdt = s.wdt ∧ (s.wde = true → t.wde = true) ∧ (s.seq.phase ≠ .idle → t.seq = s.seq) := by
  rcases exec_cases h with ⟨v, rfl⟩ | rfl | ⟨hi, rfl⟩ | rfl | ⟨d, rfl⟩ | ⟨d, rfl⟩ | ⟨g, z, rfl⟩
  case inr.inr.inl => exact ⟨rfl, id, fun hp => absurd hi hp⟩
  all_goals exact ⟨by simp, fun hw => by simp [hw], fun _ => by simp⟩

/-- Between ticks and resets no agent reaches the watchdog's clock domain, clears WDE, or moves a read in progress. -/
theorem takeTurn_between {t : Turn} {s u : State} (h : takeTurn t s = .next u) (hc : t ≠ .coreTick)
    (hw : t ≠ .wdtTick) (hr : t ≠ .reset) :
    u.wdt = s.wdt ∧ (s.wde = true → u.wde = true) ∧ (s.seq.phase ≠ .idle → u.seq = s.seq) := by
  cases t with
  | coreTick => exact absurd rfl hc
  | wdtTick => exact absurd rfl hw
  | reset => exact absurd rfl hr
  | host =>
    rcases hostTurn_next h with ⟨-, rfl⟩ | ⟨-, p, d, rfl | ⟨i, hi⟩⟩
    · exact ⟨rfl, id, fun _ => rfl⟩
    · exact ⟨rfl, id, fun _ => rfl⟩
    · exact exec_between (s := { s with prog := p, draws := d }) hi
  | irq =>
    cases h
    unfold irqTurn
    split
    · simp [takeIrq]
    · exact ⟨rfl, id, fun _ => rfl⟩
  | data | other | controller => cases h; exact ⟨rfl, id, fun _ => rfl⟩

/-- Between CORE_TICKs a read in progress stands still, or a reset ends it. -/
theorem takeTurn_seq {t : Turn} {s u : State} (h : takeTurn t s = .next u) (ht : t ≠ .coreTick)
    (hp : s.seq.phase ≠ .idle) : u.seq = s.seq ∨ u.seq.phase = .idle := by
  by_cases hr : t = .reset
  · subst hr; cases h; exact .inr rfl
  by_cases hw : t = .wdtTick
  · subst hw; cases h
    by_cases hx : watchdogExpires s = true
    · rw [wdtTick_expires s hx]; exact .inr rfl
    · rw [wdtTick_eq s (by simpa using hx)]; exact .inl rfl
  obtain ⟨-, -, hq⟩ := takeTurn_between h ht hw hr
  exact .inl (hq hp)

/-- No turn of any agent leaves more of a read in progress. -/
theorem readLeft_takeTurn_le {t : Turn} {s u : State} (h : takeTurn t s = .next u) (hk : s.seq.k ≤ 11)
    (hp : s.seq.phase ≠ .idle) : readLeft u ≤ readLeft s := by
  by_cases ht : t = .coreTick
  · subst ht; cases h; exact (readLeft_coreTick_lt hk hp).le
  · rcases takeTurn_seq h ht hp with hq | hi
    · exact (readLeft_congr hq (takeTurn_build h)).le
    · simp [readLeft_of_idle hi]

/-- Settles O55: what is left of the read falls with every CORE_TICK, which fairness brings, and never rises. -/
theorem fairRunsEndEveryRead : Obligations.FairRunsEndEveryRead := by
  intro sched run n hrun hfair _ ⟨_, hk, _⟩ howed
  have hk' (m : Nat) (hm : n ≤ m) : (run m).seq.k ≤ 11 := run_keeps buttonNumber_kept hrun hk hm
  refine fair_run_reaches hfair howed (fun m => (run m).seq.phase = .idle) readLeft (fun m hm hp => ?_)
    (fun m hm hp ht => ?_)
  · exact readLeft_takeTurn_le (hrun m) (hk' m hm) hp
  · rw [run_coreTick hrun ht]
    exact readLeft_coreTick_lt (hk' m hm) hp

/-! ### A stalled host is reset -/

/-- The bits of the WDT domain that a constant KK_REQ and a set WDE have still to reach, each weighted so that one
WDT_TICK at least halves the sum. -/
def settling (c : Bool) (w : Wdt) : Nat :=
  4 * (w.k1 ^^ c).toNat + 2 * (w.k2 ^^ c).toNat + (w.kack ^^ c).toNat + 2 * (!w.e1).toNat + (!w.e2).toNat

/-- A measure of the WDT_TICKs until the reset, once no kick departs: the crossings settle, and then RCNT counts. -/
def resetLeft (c : Bool) (s : State) : Nat :=
  settling c s.wdt + if settling c s.wdt = 0 then s.build.resetWindow - s.wdt.rcnt else s.build.resetWindow

theorem settling_eq_zero {c : Bool} {w : Wdt} (h : settling c w = 0) : w.k2 = c ∧ w.kack = c ∧ w.e2 = true := by
  obtain ⟨⟨⟨⟨-, hk2⟩, hka⟩, -⟩, he2⟩ : ((((w.k1 = c ∧ w.k2 = c) ∧ w.kack = c) ∧ w.e1 = true) ∧ w.e2 = true) := by
    simpa [settling] using h
  exact ⟨hk2, hka, he2⟩

/-- An arrived kick is acknowledged, so after every tick the acknowledge is the request that was seen. -/
theorem kack_after_tick (s : State) : (if kickArrives s = true then s.wdt.k2 else s.wdt.kack) = s.wdt.k2 := by
  cases h : s.wdt.k2 <;> cases h' : s.wdt.kack <;> simp [kickArrives, h, h']

/-- With WDE set, a WDT_TICK moves the settled levels one stage on. -/
theorem two_mul_settling_wdtTick_le {s : State} (hx : watchdogExpires s = false) (hw : s.wde = true) :
    2 * settling s.kkReq (wdtTick s).wdt ≤ settling s.kkReq s.wdt := by
  have hnext : settling s.kkReq (wdtTick s).wdt
      = 2 * (s.wdt.k1 ^^ s.kkReq).toNat + (s.wdt.k2 ^^ s.kkReq).toNat + (!s.wdt.e1).toNat := by
    simp [settling, wdtTick_eq s hx, kack_after_tick, hw]
  rw [hnext, settling]
  omega

/-- With the crossings settled, a WDT_TICK that raises no reset counts towards the window. -/
theorem rcnt_wdtTick_of_settled {s : State} (h : settling s.kkReq s.wdt = 0) (hx : watchdogExpires s = false) :
    (wdtTick s).wdt.rcnt = s.wdt.rcnt + 1 ∧ s.wdt.rcnt + 1 < s.build.resetWindow := by
  obtain ⟨hk2, hka, he2⟩ := settling_eq_zero h
  constructor
  · simp [wdtTick_eq s hx, nextRcnt, kickArrives, hk2, hka, he2]
  · simpa [watchdogExpires, kickArrives, hk2, hka, he2] using hx

/-- Each WDT_TICK that raises no reset brings the reset nearer. -/
theorem resetLeft_wdtTick_lt {s : State} (hx : watchdogExpires s = false) (hw : s.wde = true) :
    resetLeft s.kkReq (wdtTick s) < resetLeft s.kkReq s := by
  have hb : (wdtTick s).build = s.build := by rw [wdtTick_eq s hx]
  have hs := two_mul_settling_wdtTick_le hx hw
  rw [resetLeft, resetLeft, hb]
  by_cases h0 : settling s.kkReq s.wdt = 0
  · obtain ⟨hr, hlt⟩ := rcnt_wdtTick_of_settled h0 hx
    have h0' : settling s.kkReq (wdtTick s).wdt = 0 := by omega
    rw [if_pos h0, if_pos h0']
    omega
  · rw [if_neg h0]
    split <;> omega

/-- Between WDT_TICKs the watchdog's clock domain stands still. -/
theorem takeTurn_wdt {t : Turn} {s u : State} (h : takeTurn t s = .next u) (ht : t ≠ .wdtTick) (hr : t ≠ .reset) :
    u.wdt = s.wdt := by
  by_cases hc : t = .coreTick
  · subst hc; cases h; exact coreTick_wdt s
  · exact (takeTurn_between h hc ht hr).1

/-- Once set, WDE is kept by every turn that does not reset the machine. -/
theorem takeTurn_wde {t : Turn} {s u : State} (h : takeTurn t s = .next u) (hr : ¬ Resets t s) (hw : s.wde = true) :
    u.wde = true := by
  obtain ⟨hr, hx⟩ := not_or.mp hr
  by_cases hc : t = .coreTick
  · subst hc; cases h; exact (coreTick_wde s).trans hw
  by_cases ht : t = .wdtTick
  · subst ht; cases h
    rw [wdtTick_eq s (by simpa using hx)]
    exact hw
  obtain ⟨-, hkeep, -⟩ := takeTurn_between h hc ht hr
  exact hkeep hw

/-- Settles O56: were there no reset, WDE and KK_REQ would stay as they are, and then every WDT_TICK, which fairness
brings, brings the reset nearer while no other turn puts it off. -/
theorem aStalledHostIsReset : Obligations.AStalledHostIsReset := by
  intro sched run n hrun hfair _ hwde hkick
  by_contra hno
  have hstay (m : Nat) (hm : n ≤ m) : ¬ Resets (sched m) (run m) := fun hr => hno ⟨m, hm, hr⟩
  have hreq (m : Nat) (hm : n ≤ m) : (run m).kkReq = (run n).kkReq := hkick m hm fun j hj _ => hstay j hj
  have hwde' (m : Nat) (hm : n ≤ m) : (run m).wde = true := by
    induction m, hm using Nat.le_induction with
    | base => exact hwde
    | succ m hm ih => exact takeTurn_wde (hrun m) (hstay m hm) ih
  have hlt (m : Nat) (hm : n ≤ m) (ht : sched m = .wdtTick) :
      resetLeft (run n).kkReq (run (m + 1)) < resetLeft (run n).kkReq (run m) := by
    have hx : watchdogExpires (run m) = false := by simpa [Resets, ht] using hstay m hm
    rw [run_wdtTick hrun ht, ← hreq m hm]
    exact resetLeft_wdtTick_lt hx (hwde' m hm)
  refine hno (fair_run_reaches hfair (fun _ _ => trivial) _ (resetLeft (run n).kkReq) (fun m hm _ => ?_)
    fun m hm _ ht => hlt m hm ht)
  by_cases ht : sched m = .wdtTick
  · exact (hlt m hm ht).le
  · have hw := takeTurn_wdt (hrun m) ht fun hr => hstay m hm (.inl hr)
    simp only [resetLeft, hw, takeTurn_build (hrun m), le_refl]

end Sys2Proof.Proofs

/-! ## Proofs of the state statements: what each turn makes of the block, and the invariants that every step keeps. -/

namespace Sys2Proof.Proofs

open Sys2Proof Sys2Proof.Machine Sys2Proof.Safety

/-! ### What a turn makes of the block -/

/-- The reader, the watchdog domain, WDE and KK_REQ stand as they were, and WAKEF is not set anew. -/
structure KeepsBlock (s u : State) : Prop where
  build : u.build = s.build
  buttons : u.buttons = s.buttons
  seq : u.seq = s.seq
  latch : u.latch = s.latch
  clock : u.clock = s.clock
  wde : u.wde = s.wde
  kkReq : u.kkReq = s.kkReq
  wdt : u.wdt = s.wdt
  wakef : u.wakef = true → s.wakef = true

/-- Whatever touches no element of the block keeps it. -/
theorem KeepsBlock.refl (s : State) : KeepsBlock s s := ⟨rfl, rfl, rfl, rfl, rfl, rfl, rfl, rfl, id⟩

/-- The three host operations that move the block: a START from IDLE, a KICK, and a write of WDT_CTRL. -/
inductive MovesBlock (s : State) : State → Prop
  | start (hi : s.seq.phase = .idle) : MovesBlock s (startRead s)
  | kick : MovesBlock s (departKick s)
  | wdtCtrl (d : Byte) : MovesBlock s (writeWdtCtrl d s)

/-- A host operation moves the block in one of the three ways, or keeps it. -/
theorem exec_block {i : Instr} {s u : State} (h : exec i s = .next u) : MovesBlock s u ∨ KeepsBlock s u := by
  rcases exec_cases h with ⟨v, rfl⟩ | rfl | ⟨hi, rfl⟩ | rfl | ⟨d, rfl⟩ | ⟨d, rfl⟩ | ⟨g, z, rfl⟩
  · exact .inr { KeepsBlock.refl s with }
  · exact .inr (.refl _)
  · exact .inl (.start hi)
  · exact .inl .kick
  · exact .inr { KeepsBlock.refl s with wakef := by simp +contextual }
  · exact .inl (.wdtCtrl d)
  · exact .inr { KeepsBlock.refl s with }

/-- Taking an interrupt at most clears WAKEF. -/
theorem takeIrq_keepsBlock (s : State) : KeepsBlock s (takeIrq s) := by
  rw [takeIrq_eq]
  exact { KeepsBlock.refl s with wakef := by simp }

/-- A turn that resets the machine is the full reset and nothing else. -/
theorem takeTurn_resets {t : Turn} {s : State} (h : Resets t s) : takeTurn t s = .next (fullReset s) := by
  rcases h with rfl | ⟨rfl, hx⟩
  · rfl
  · exact congrArg _ (wdtTick_expires s hx)

/-- Everything a turn can make of the block: a reset, a tick, a moving host operation, or nothing. -/
theorem takeTurn_block {t : Turn} {s u : State} (h : takeTurn t s = .next u) :
    (Resets t s ∧ u = fullReset s) ∨ (t = .coreTick ∧ u = coreTick s) ∨
    (t = .wdtTick ∧ watchdogExpires s = false ∧ u = wdtTick s) ∨
    (t = .host ∧ ∃ p d, MovesBlock { s with prog := p, draws := d } u) ∨ KeepsBlock s u := by
  by_cases hr : Resets t s
  · rw [takeTurn_resets hr] at h
    cases h
    exact .inl ⟨hr, rfl⟩
  refine .inr ?_
  cases t with
  | reset => exact absurd (.inl rfl) hr
  | coreTick => cases h; exact .inl ⟨rfl, rfl⟩
  | wdtTick => cases h; exact .inr (.inl ⟨rfl, by simpa [Resets] using hr, rfl⟩)
  | host =>
    rcases hostTurn_next h with ⟨-, rfl⟩ | ⟨-, p, d, rfl | ⟨i, hi⟩⟩
    · exact .inr (.inr (.inr (.refl _)))
    · exact .inr (.inr (.inr { KeepsBlock.refl s with }))
    · rcases exec_block hi with hm | hb
      · exact .inr (.inr (.inl ⟨rfl, p, d, hm⟩))
      · exact .inr (.inr (.inr { hb with }))
  | irq =>
    cases h
    unfold irqTurn
    split
    · exact .inr (.inr (.inr (takeIrq_keepsBlock s)))
    · exact .inr (.inr (.inr (.refl _)))
  | data | other | controller => cases h; exact .inr (.inr (.inr { KeepsBlock.refl s with }))

/-- A step is the next turn, taken in a state that differs in its schedule only. -/
theorem step_takesTurn {s t : State} (h : step s = .next t) :
    ∃ ts d, takeTurn (nextTurn s) { s with turns := ts, draws := d } = .next t := by
  obtain ⟨ts, d, he⟩ := popTurn_eq s
  exact ⟨ts, d, he ▸ h⟩

/-! ### The reader -/

/-- The reader's invariant speaks of the build, BUTTONS, SEQ and the pins alone. -/
theorem readerOk_congr {s u : State} (hb : u.build = s.build) (hn : u.buttons = s.buttons) (hq : u.seq = s.seq)
    (hl : u.latch = s.latch) (hc : u.clock = s.clock) (hs : ReaderOk s) : ReaderOk u := by
  simpa only [ReaderOk, hb, hn, hq, hl, hc] using hs

/-! What the reader's invariant says in each phase. -/

theorem readerOk_idle_iff {s : State} (hp : s.seq.phase = .idle) :
    ReaderOk s ↔ s.buttons.extractLsb' 12 4 = 0#4 ∧ s.seq.k = 0 ∧ s.seq.cnt = 0 ∧ s.latch = false := by
  simp [ReaderOk, hp]
  omega

theorem readerOk_latchHold_iff {s : State} (hp : s.seq.phase = .latchHold) :
    ReaderOk s ↔ s.buttons.extractLsb' 12 4 = 0#4 ∧ s.seq.k = 0 ∧
      (1 ≤ s.seq.cnt ∧ s.seq.cnt ≤ s.build.settleCycles) ∧ s.latch = true ∧ s.clock = true := by
  simp [ReaderOk, hp]
  omega

theorem readerOk_sample_iff {s : State} (hp : s.seq.phase = .sample) :
    ReaderOk s ↔ s.buttons.extractLsb' 12 4 = 0#4 ∧ s.seq.k ≤ 11 ∧ s.seq.cnt = 0 ∧
      s.latch = false ∧ s.clock = true := by
  simp [ReaderOk, hp]

theorem readerOk_clkLow_iff {s : State} (hp : s.seq.phase = .clkLow) :
    ReaderOk s ↔ s.buttons.extractLsb' 12 4 = 0#4 ∧ s.seq.k ≤ 11 ∧
      (1 ≤ s.seq.cnt ∧ s.seq.cnt ≤ s.build.settleCycles) ∧ s.latch = false ∧ s.clock = false := by
  simp [ReaderOk, hp]

/-- A bitmap of twelve bits leaves bits 15:12 of BUTTONS zero. -/
theorem bitmap_high_zero (v : Buttons) : (v.zeroExtend 16).extractLsb' 12 4 = 0#4 := by
  apply BitVec.eq_of_getLsbD_eq
  intro i hi
  simp [hi]

/-- A legal build settles for at least one tick. -/
theorem one_le_settleCycles {b : Build} (hl : b.Legal) : 1 ≤ b.settleCycles := by
  obtain ⟨hsync, -⟩ := hl
  exact le_trans (by decide) hsync

/-- Each phase hands the next one the counter, the button number and the pin levels that it asks for. -/
theorem readerOk_coreTick {s : State} (hl : s.build.Legal) (hs : ReaderOk s) : ReaderOk (coreTick s) := by
  rcases coreTick_seq s with ⟨-, hq, hn, hla, hcl⟩ | ⟨hp, -, hq, hn, hla, hcl⟩ | ⟨hp, hc, hq, hn, hla, hcl⟩ |
      ⟨hp, hq, hn, hla, hcl⟩ | ⟨hp, hc, hq, hn, hla, hcl⟩ | ⟨hp, -, hk11, hq, hn, hla, hcl⟩ |
      ⟨hp, -, -, hq, hn, hla, hcl⟩
  · exact readerOk_congr (coreTick_build s) hn hq hla hcl hs
  · obtain ⟨hbuttons, hk, -, -, hclock⟩ := (readerOk_latchHold_iff hp).mp hs
    rw [readerOk_sample_iff (by rw [hq]), hq, hn, hla, hcl]
    exact ⟨hbuttons, hk.le.trans (by decide), rfl, rfl, hclock⟩
  · obtain ⟨hbuttons, hk, hcnt, hpins⟩ := (readerOk_latchHold_iff hp).mp hs
    rw [readerOk_latchHold_iff (by rw [hq, hp]), hq, hn, hla, hcl, coreTick_build]
    exact ⟨hbuttons, hk, ⟨Nat.pos_of_ne_zero hc, (Nat.sub_le _ _).trans hcnt.2⟩, hpins⟩
  · obtain ⟨hbuttons, hk, -, hlatch, -⟩ := (readerOk_sample_iff hp).mp hs
    rw [readerOk_clkLow_iff (by rw [hq]), hq, hn, hla, hcl, coreTick_build]
    exact ⟨hbuttons, hk, ⟨one_le_settleCycles hl, le_rfl⟩, hlatch, rfl⟩
  · obtain ⟨hbuttons, hk, hcnt, hpins⟩ := (readerOk_clkLow_iff hp).mp hs
    rw [readerOk_clkLow_iff (by rw [hq, hp]), hq, hn, hla, hcl, coreTick_build]
    exact ⟨hbuttons, hk, ⟨Nat.pos_of_ne_zero hc, (Nat.sub_le _ _).trans hcnt.2⟩, hpins⟩
  · obtain ⟨hbuttons, hk, -, hlatch, -⟩ := (readerOk_clkLow_iff hp).mp hs
    rw [readerOk_sample_iff (by rw [hq]), hq, hn, hla, hcl]
    exact ⟨hbuttons, Nat.lt_of_le_of_ne hk hk11, rfl, hlatch, rfl⟩
  · obtain ⟨-, -, -, hlatch, -⟩ := (readerOk_clkLow_iff hp).mp hs
    rw [readerOk_idle_iff (by rw [hq]), hq, hn, hla]
    exact ⟨bitmap_high_zero _, rfl, rfl, hlatch⟩

/-- A START loads a settle delay of at least one tick. -/
theorem readerOk_startRead {s : State} (hl : s.build.Legal) (hs : ReaderOk s) : ReaderOk (startRead s) := by
  obtain ⟨hbuttons, -⟩ := hs
  rw [readerOk_latchHold_iff rfl]
  exact ⟨hbuttons, rfl, ⟨one_le_settleCycles hl, le_rfl⟩, rfl, rfl⟩

theorem readerOk_fullReset (s : State) : ReaderOk (fullReset s) :=
  (readerOk_idle_iff rfl).mpr ⟨by simp, rfl, rfl, rfl⟩

theorem takeTurn_readerOk {t : Turn} {s u : State} (h : takeTurn t s = .next u) (hl : s.build.Legal)
    (hs : ReaderOk s) : ReaderOk u := by
  rcases takeTurn_block h with ⟨-, rfl⟩ | ⟨-, rfl⟩ | ⟨-, hx, rfl⟩ | ⟨-, p, d, _ | _ | b⟩ | hb
  · exact readerOk_fullReset s
  · exact readerOk_coreTick hl hs
  · rw [wdtTick_eq s hx]; exact hs
  · exact readerOk_startRead hl hs
  · exact readerOk_congr (by simp) (by simp) (by simp) (by simp) (by simp) hs
  · exact hs
  · exact readerOk_congr hb.build hb.buttons hb.seq hb.latch hb.clock hs

/-- Settles O34: a START and each CORE_TICK establish what the phase they lead to asks for, a reset leaves the idle
phase, and no other turn touches the reader. -/
theorem everyStepKeepsTheReader : Obligations.EveryStepKeepsTheReader := by
  intro s t hl hs h
  obtain ⟨ts, d, h⟩ := step_takesTurn h
  exact takeTurn_readerOk h hl hs

/-- BUTTONS is written by the commit and by a reset alone. -/
theorem takeTurn_buttons {t : Turn} {s u : State} (h : takeTurn t s = .next u) (hne : u.buttons ≠ s.buttons) :
    Resets t s ∨ (t = .coreTick ∧ s.seq.phase = .clkLow ∧ s.seq.k = 11 ∧ s.seq.cnt ≤ 1 ∧
      u.buttons = s.seq.shift.zeroExtend 16 ∧ u.seq.phase = .idle) := by
  rcases takeTurn_block h with ⟨hr, -⟩ | ⟨ht, rfl⟩ | ⟨-, hx, rfl⟩ | ⟨-, p, d, _ | _ | b⟩ | hb
  · exact .inl hr
  · rcases coreTick_seq s with ⟨-, -, hn, -⟩ | ⟨-, -, -, hn, -⟩ | ⟨-, -, -, hn, -⟩ | ⟨-, -, hn, -⟩ | ⟨-, -, -, hn, -⟩ |
      ⟨-, -, -, -, hn, -⟩ | ⟨hp, hc, hk, hq, hn, -⟩
    case inr.inr.inr.inr.inr.inr => exact .inr ⟨ht, hp, hk, by omega, hn, by rw [hq]⟩
    all_goals exact absurd hn hne
  · exact absurd (by rw [wdtTick_eq s hx]) hne
  · exact absurd rfl hne
  · exact absurd (by simp) hne
  · exact absurd rfl hne
  · exact absurd hb.buttons hne

/-- Settles O43: of the CORE_TICK's cases only the commit writes BUTTONS, and of the other turns only a reset. -/
theorem buttonsHaveOneWriter : Obligations.ButtonsHaveOneWriter := by
  intro s t h hne
  obtain ⟨ts, d, h⟩ := step_takesTurn h
  exact (takeTurn_buttons h hne :)

/-- The pins are driven by a START from IDLE, by the CORE_TICKs of a read, and by a reset alone. -/
theorem takeTurn_pins {t : Turn} {s u : State} (h : takeTurn t s = .next u)
    (hne : u.latch ≠ s.latch ∨ u.clock ≠ s.clock) :
    Resets t s ∨ (t = .coreTick ∧ s.seq.phase ≠ .idle) ∨
    (t = .host ∧ s.seq.phase = .idle ∧ u.seq.phase = .latchHold ∧ u.latch = true ∧ u.clock = true) := by
  by_contra hno
  have hstay : u.latch = s.latch ∧ u.clock = s.clock := by
    rcases takeTurn_block h with ⟨hr, -⟩ | ⟨ht, rfl⟩ | ⟨-, hx, rfl⟩ | ⟨ht, p, d, hi | _ | b⟩ | hb
    · exact absurd (.inl hr) hno
    · have hidle : s.seq.phase = .idle := by_contra fun hp => hno (.inr (.inl ⟨ht, hp⟩))
      rcases coreTick_seq s with ⟨-, -, -, hpins⟩ | hbusy
      · exact hpins
      · simp [hidle] at hbusy
    · rw [wdtTick_eq s hx]; exact ⟨rfl, rfl⟩
    · exact absurd (.inr (.inr ⟨ht, hi, rfl, rfl, rfl⟩)) hno
    · simp
    · exact ⟨rfl, rfl⟩
    · exact ⟨hb.latch, hb.clock⟩
  exact hne.elim (absurd hstay.1) (absurd hstay.2)

/-- Settles O44: a turn that is none of the three leaves both pins as they were. -/
theorem pinsMoveOnlyInARead : Obligations.PinsMoveOnlyInARead := by
  intro s t h hne
  obtain ⟨ts, d, h⟩ := step_takesTurn h
  exact (takeTurn_pins h hne :)

/-! ### The watchdog domain and the crossings -/

/-- The watchdog's invariant speaks of the build, WDE and the WDT domain alone, and setting WDE keeps it. -/
theorem wdtOk_congr {s u : State} (hb : u.build = s.build) (hw : u.wdt = s.wdt) (he : s.wde = true → u.wde = true)
    (hs : WdtOk s) : WdtOk u := by
  obtain ⟨h21, h1, hr⟩ := hs
  rw [WdtOk, hb, hw]
  exact ⟨h21, fun h => he (h1 h), hr⟩

theorem wdtOk_fullReset {s : State} (hl : s.build.Legal) : WdtOk (fullReset s) := by
  obtain ⟨-, hwake, hwindow, -⟩ := hl
  exact ⟨nofun, nofun, fun _ => rfl, hwake, (Nat.zero_le _).trans_lt hwindow⟩

/-- A tick that raises no reset leaves the reset counter below the window. -/
theorem nextRcnt_lt {s : State} (hl : s.build.Legal) (hx : watchdogExpires s = false) :
    nextRcnt s < s.build.resetWindow := by
  obtain ⟨-, hwake, hwindow, -⟩ := hl
  unfold nextRcnt
  split
  · omega
  · simp_all [watchdogExpires]

/-- Each WDT_TICK moves the enable one stage on, and the counter it has not reached yet stays at 0. -/
theorem wdtOk_wdtTick {s : State} (hl : s.build.Legal) (hx : watchdogExpires s = false) (hs : WdtOk s) :
    WdtOk (wdtTick s) := by
  have hr := nextRcnt_lt hl hx
  obtain ⟨-, hwake, -⟩ := hl
  obtain ⟨h21, h1, -⟩ := hs
  rw [wdtTick_eq s hx]
  refine ⟨h1, id, fun he1 => ?_, Nat.mod_lt _ hwake, hr⟩
  have he2 : s.wdt.e2 = false := Bool.eq_false_iff.mpr fun h2 => Bool.eq_false_iff.mp he1 (h21 h2)
  simp [nextRcnt, he2]

theorem takeTurn_wdtOk {t : Turn} {s u : State} (h : takeTurn t s = .next u) (hl : s.build.Legal) (hs : WdtOk s) :
    WdtOk u := by
  rcases takeTurn_block h with ⟨-, rfl⟩ | ⟨-, rfl⟩ | ⟨-, hx, rfl⟩ | ⟨-, p, d, _ | _ | b⟩ | hb
  · exact wdtOk_fullReset hl
  · exact wdtOk_congr (by simp) (by simp) (by simp) hs
  · exact wdtOk_wdtTick hl hx hs
  · exact hs
  · exact wdtOk_congr (by simp) (by simp) (by simp) hs
  · exact wdtOk_congr (s := s) rfl rfl (fun he => by simp [he]) hs
  · exact wdtOk_congr hb.build hb.wdt (fun he => hb.wde.trans he) hs

/-- Settles O37: a WDT_TICK shifts the enable and counts within the bounds, a reset clears the domain, and between them
only WDE can move, and only up. -/
theorem everyStepKeepsTheWatchdog : Obligations.EveryStepKeepsTheWatchdog := by
  intro s t hl hs h
  obtain ⟨ts, d, h⟩ := step_takesTurn h
  exact takeTurn_wdtOk h hl hs

/-- A turn that toggles KK_REQ finds the kick before it acknowledged. -/
theorem takeTurn_kkReq {t : Turn} {s u : State} (h : takeTurn t s = .next u) (hr : ¬ Resets t s)
    (hne : u.kkReq ≠ s.kkReq) : s.kkReq = s.kkA2 := by
  rcases takeTurn_block h with ⟨hr', -⟩ | ⟨-, rfl⟩ | ⟨-, hx, rfl⟩ | ⟨-, p, d, _ | _ | b⟩ | hb
  · exact absurd hr' hr
  · exact absurd (by simp) hne
  · exact absurd (by rw [wdtTick_eq s hx]) hne
  · exact absurd rfl hne
  · by_contra hbusy
    exact hne (by simp [hbusy])
  · exact absurd rfl hne
  · exact absurd hb.kkReq hne

/-- A turn that toggles W_REQ finds the wake event before it acknowledged. -/
theorem takeTurn_req {t : Turn} {s u : State} (h : takeTurn t s = .next u) (hr : ¬ Resets t s)
    (hne : u.wdt.req ≠ s.wdt.req) : s.wdt.req = s.wdt.a2 := by
  obtain ⟨hr, hx⟩ := not_or.mp hr
  by_cases ht : t = .wdtTick
  · subst ht; cases h
    rw [wdtTick_eq s (by simpa using hx)] at hne
    have hdep : wakeDeparts s = true := by_contra fun hd => hne (if_neg hd)
    simp only [wakeDeparts, Bool.and_eq_true, beq_iff_eq] at hdep
    exact hdep.2
  · exact absurd (by rw [takeTurn_wdt h ht hr]) hne

/-- Settles O41: W_REQ toggles where a wake event departs, KK_REQ where a kick does, and both wait for
the acknowledge. -/
theorem requestsToggleOnlyWhenAcknowledged : Obligations.RequestsToggleOnlyWhenAcknowledged := by
  intro s t h hr
  obtain ⟨ts, d, h⟩ := step_takesTurn h
  exact ⟨(takeTurn_req h hr :), (takeTurn_kkReq h hr :)⟩

/-- Settles O42: no turn but a reset clears WDE. -/
theorem wdeStaysSetUntilReset : Obligations.WdeStaysSetUntilReset := by
  intro s t h hr hw
  obtain ⟨ts, d, h⟩ := step_takesTurn h
  exact takeTurn_wde h hr hw

/-- WAKEF is set by the CORE_TICK that delivers to an armed block, and the arming is consumed. -/
theorem takeTurn_wakef {t : Turn} {s u : State} (h : takeTurn t s = .next u) (hs : s.wakef = false)
    (hu : u.wakef = true) : t = .coreTick ∧ s.wkR2 ≠ s.wkAck ∧ s.wie = true ∧ u.wie = false := by
  have hno : s.wakef ≠ true := Bool.eq_false_iff.mp hs
  rcases takeTurn_block h with ⟨-, rfl⟩ | ⟨ht, rfl⟩ | ⟨-, hx, rfl⟩ | ⟨-, p, d, _ | _ | b⟩ | hb
  · simp at hu
  · have ha : wakeArrives s = true := by_contra fun ha => hno (by simpa [ha] using hu)
    exact ⟨ht, by simpa [wakeArrives] using ha, by simpa [ha, hs] using hu, by simp [ha]⟩
  · exact absurd (by rwa [wdtTick_eq s hx] at hu) hno
  · exact absurd hu hno
  · exact absurd (by simpa using hu) hno
  · exact absurd hu hno
  · exact absurd (hb.wakef hu) hno

/-- Settles O45: only the wake delivery of a CORE_TICK sets WAKEF, and it reads and clears WIE. -/
theorem wakefIsSetOnlyByAnArmedDelivery : Obligations.WakefIsSetOnlyByAnArmedDelivery := by
  intro s t h hs hu
  obtain ⟨ts, d, h⟩ := step_takesTurn h
  exact (takeTurn_wakef h hs hu :)

/-! ### Reset and power-on -/

/-- A reset at power-on would change nothing. -/
theorem fullReset_reset : fullReset State.reset = State.reset := rfl

/-- After a reset STATUS shows the build's profile and nothing else. -/
theorem regRead_status_fullReset (s : State) :
    regRead 0x1#4 (fullReset s) = if s.build.profile = .compatible then 0x02#8 else 0x00#8 := by
  have hb : busy (fullReset s) = false := rfl
  have hk : kbusy (fullReset s) = false := rfl
  show statusByte (fullReset s) = _
  rw [statusByte, hb, hk, profileBit]
  simp only [fullReset_build, fullReset_wakef]
  cases s.build.profile <;> decide

/-- Settles O33: power-on is itself the effect of a reset, which gives each element its value; the registers follow. -/
theorem resetLeavesTheListedValues : Obligations.ResetLeavesTheListedValues := by
  intro s t ht
  obtain ⟨r, rfl⟩ : ∃ r, t = fullReset r := by
    rcases ht with rfl | rfl
    · exact ⟨State.reset, fullReset_reset.symm⟩
    · exact ⟨s, rfl⟩
  have hlo : regRead 0x2#4 (fullReset r) = 0x00#8 := by simp [regRead, btnLoByte]
  have hhi : regRead 0x3#4 (fullReset r) = 0x00#8 := by simp [regRead, btnHiByte]
  have hctrl : regRead 0x4#4 (fullReset r) = 0x00#8 := by simp [regRead, wdtCtrlByte]
  simp +contextual [Seq.reset, Wdt.reset, regRead_status_fullReset, hlo, hhi, hctrl]

/-- The build's bounds hold whatever its open parameters are. -/
theorem config_build_legal : Config.build.Legal := by
  simp only [Build.Legal, Config.build, dataSyncStages]
  omega

/-- Settles O39: power-on leaves what a reset leaves, the toggles are all equal, and no controller is attached. -/
theorem powerOnMeetsTheInvariants : Obligations.PowerOnMeetsTheInvariants := by
  refine ⟨config_build_legal, rfl, ?_, ?_, ?_, ?_, nofun⟩
  · exact fullReset_reset ▸ readerOk_fullReset State.reset
  · decide
  · decide
  · exact fullReset_reset ▸ wdtOk_fullReset (s := State.reset) config_build_legal

end Sys2Proof.Proofs

/-! ## Proofs of the memory statements: accesses of the window, and what a host operation leaves alone. -/

namespace Sys2Proof.Proofs

open Sys2Proof Sys2Proof.Machine

/-! ### Accesses of the window -/

/-- The two edges of the window as inequalities (R42); an access of 0 bytes counts as one byte long. -/
theorem touches_iff (b : Build) (a : BusAccess) :
    touches b a = true ↔ b.base < a.addr + max a.bytes 1 ∧ a.addr < b.base + 16 := by
  simp only [touches, Bool.and_eq_true, decide_eq_true_eq]

/-- Outside the window the block sees nothing (R42). -/
theorem runAccess_outside {a : BusAccess} {s : State} (h : ¬ touches s.build a = true) : runAccess a s = .next s := by
  rw [runAccess, if_neg h]

/-- In the window any width but one byte is refused (R45). -/
theorem runAccess_width {a : BusAccess} {s : State} (h : touches s.build a = true) (hb : a.bytes ≠ 1) :
    runAccess a s = .refused (.accessWidth a.bytes) := by
  rw [runAccess, if_pos h, if_neg hb]

/-- In the window an access of one byte runs as its host operation word (R57). -/
theorem runAccess_byte {a : BusAccess} {s : State} (h : touches s.build a = true) (hb : a.bytes = 1) :
    runAccess a s = runWord (accessWord s.build a) s := by
  rw [runAccess, if_pos h, if_pos hb]

/-- Settles O57: each clause puts the access on one side of the window's edges. -/
theorem accessesReachingTheWindowAreRefused : Obligations.AccessesReachingTheWindowAreRefused := by
  refine fun a s => ⟨fun hb hhi hlo => ?_, fun hout => ?_⟩
  · exact runAccess_width ((touches_iff _ _).mpr ⟨hlo, hhi⟩) hb
  · refine runAccess_outside fun htouch => ?_
    obtain ⟨hlo, hhi⟩ := (touches_iff _ _).mp htouch
    omega

/-- `BASE + off` selects the offset `off` (R42). -/
theorem offsetOf_base_add (b : Build) (off : Offset) : offsetOf b (b.base + off.toNat) = off := by
  simp only [offsetOf, Nat.add_sub_cancel_left, BitVec.ofNat_toNat, BitVec.setWidth_eq]

/-- Every offset is an address of the window. -/
theorem runAccess_base_add (s : State) (off : Offset) (v : Option Byte) :
    runAccess ⟨s.build.base + off.toNat, 1, v⟩ s
      = runWord (accessWord s.build ⟨s.build.base + off.toNat, 1, v⟩) s := by
  refine runAccess_byte ((touches_iff _ _).mpr ?_) rfl
  have hoff : off.toNat < 16 := off.isLt
  simp only [max_self]
  omega

/-- Settles O9: the access is the word of its offset, which decodes to the read or write there. -/
theorem busAccessSelectsByOffset : Obligations.BusAccessSelectsByOffset := by
  intro s off
  refine ⟨?_, fun v => ?_⟩ <;> rw [runAccess_base_add, accessWord, offsetOf_base_add]
  · rw [runWord_of_decode (decode_encodeRead off), exec_decodeRead]
  · rw [runWord_of_decode (decode_encodeWrite off v)]

/-! ### What a host operation leaves alone -/

/-- Only four operations write to the block, each by its named write; any other returns a byte or sets the host core's
gate. -/
theorem exec_writes {i : Instr} {s t : State} (h : exec i s = .next t) :
    (∃ v g z, t = { s with rdata := v, gie := g, sleeping := z }) ∨
    (i = .wrCmdStart ∧ t = startRead s) ∨ (i = .wrCmdKick ∧ t = departKick s) ∨
    (∃ d, i = .wrStatus d ∧ t = writeStatus d s) ∨ (∃ d, i = .wrWdtctrl d ∧ t = writeWdtCtrl d s) := by
  cases i <;> cases h
  case wrCmdStart =>
    split
    · exact .inl ⟨_, _, _, rfl⟩
    · exact .inr (.inl ⟨rfl, rfl⟩)
  case wrCmdKick => exact .inr (.inr (.inl ⟨rfl, rfl⟩))
  case wrStatus d => exact .inr (.inr (.inr (.inl ⟨d, rfl, rfl⟩)))
  case wrWdtctrl d => exact .inr (.inr (.inr (.inr ⟨d, rfl, rfl⟩)))
  all_goals exact .inl ⟨_, _, _, rfl⟩

/-- But for STATUS the window shows BUTTONS and the two enables alone (R18). -/
theorem regRead_of_ne_status {s t : State} {off : Offset} (hoff : off ≠ 0x1#4) (hn : t.buttons = s.buttons)
    (he : t.wde = s.wde) (hi : t.wie = s.wie) : regRead off t = regRead off s := by
  simp only [regRead, if_neg hoff, btnLoByte, btnHiByte, wdtCtrlByte, hn, he, hi]

theorem regRead_startRead (s : State) {off : Offset} (hoff : off ≠ 0x1#4) :
    regRead off (startRead s) = regRead off s :=
  regRead_of_ne_status hoff rfl rfl rfl

theorem regRead_departKick (s : State) {off : Offset} (hoff : off ≠ 0x1#4) :
    regRead off (departKick s) = regRead off s :=
  regRead_of_ne_status hoff (departKick_buttons s) (departKick_wde s) (departKick_wie s)

theorem regRead_writeStatus (d : Byte) (s : State) {off : Offset} (hoff : off ≠ 0x1#4) :
    regRead off (writeStatus d s) = regRead off s :=
  regRead_of_ne_status hoff rfl rfl rfl

/-- WDT_CTRL alone shows the two enables. -/
theorem regRead_writeWdtCtrl (d : Byte) (s : State) {off : Offset} (hoff : off ≠ 0x4#4) :
    regRead off (writeWdtCtrl d s) = regRead off s := by
  simp only [regRead, if_neg hoff]
  rfl

/-- Settles O23: of the four operations that write, three change STATUS alone and one WDT_CTRL alone. -/
theorem hostOperationsLeaveOtherRegisters : Obligations.HostOperationsLeaveOtherRegisters := by
  intro i s t h off
  rcases exec_writes h with ⟨v, g, z, rfl⟩ | ⟨rfl, rfl⟩ | ⟨rfl, rfl⟩ | ⟨d, rfl, rfl⟩ | ⟨d, rfl, rfl⟩
  · exact ⟨fun _ _ => rfl, fun _ _ _ => rfl, fun _ => rfl⟩
  · exact ⟨fun h1 _ => regRead_startRead s h1, fun hi => absurd rfl hi, fun _ => regRead_startRead s (by decide)⟩
  · exact ⟨fun h1 _ => regRead_departKick s h1, fun _ hi => absurd rfl hi, fun _ => regRead_departKick s (by decide)⟩
  · exact ⟨fun h1 _ => regRead_writeStatus d s h1, fun _ _ hi => absurd rfl (hi d),
      fun _ => regRead_writeStatus d s (by decide)⟩
  · exact ⟨fun _ h4 => regRead_writeWdtCtrl d s h4, fun _ _ _ => regRead_writeWdtCtrl d s (by decide),
      fun hi => absurd rfl (hi d)⟩

/-- Settles O24: each named write touches elements of the core domain only, and START alone drives the pins. -/
theorem hostOperationsStayInTheCoreDomain : Obligations.HostOperationsStayInTheCoreDomain := by
  intro i s t h
  rcases exec_writes h with ⟨v, g, z, rfl⟩ | ⟨rfl, rfl⟩ | ⟨-, rfl⟩ | ⟨d, -, rfl⟩ | ⟨d, -, rfl⟩ <;> simp

end Sys2Proof.Proofs

/-! ## Proofs of the encoding statements: decode and encode, the invalid words, the opcode table, READ_CONTROLLER. -/

namespace Sys2Proof.Proofs

open Sys2Proof Sys2Proof.Machine

/-! ### Offsets, and the operation at each -/

/-- The two ranges of offsets that share a row, and the six offsets with rows of their own (R58, R59). -/
theorem offset_cases (off : Offset) :
    (∃ o : BitVec 1, off = 0b011#3 ++ o) ∨ (∃ o : BitVec 3, off = 0b1#1 ++ o) ∨
    off = 0x0#4 ∨ off = 0x1#4 ∨ off = 0x2#4 ∨ off = 0x3#4 ∨ off = 0x4#4 ∨ off = 0x5#4 := by
  revert off
  decide

theorem decodeRead_rsvd6to7 (o : BitVec 1) : decodeRead (0b011#3 ++ o) = .rdRsvd6to7 o := by
  revert o
  decide

theorem decodeRead_rsvd8toF (o : BitVec 3) : decodeRead (0b1#1 ++ o) = .rdRsvd8toF o := by
  revert o
  decide

/-- Past the six offsets with a row of their own, bits 3:1 of the offset choose the row of a write (R59). -/
theorem decodeWrite_rsvd {off : Offset} (d : Byte) (h : off ∉ [0x0#4, 0x1#4, 0x2#4, 0x3#4, 0x4#4, 0x5#4]) :
    decodeWrite off d = if off.extractLsb' 1 3 = 0b011#3 then .wrRsvd6to7 (off.extractLsb' 0 1) d
      else .wrRsvd8toF (off.extractLsb' 0 3) d := by
  simp only [List.mem_cons, not_or] at h
  obtain ⟨h0, h1, h2, h3, h4, h5, -⟩ := h
  simp only [decodeWrite, if_neg h0, if_neg h1, if_neg h2, if_neg h3, if_neg h4, if_neg h5]

theorem decodeWrite_rsvd6to7 (o : BitVec 1) (d : Byte) : decodeWrite (0b011#3 ++ o) d = .wrRsvd6to7 o d := by
  have hrow : 0b011#3 ++ o ∉ [0x0#4, 0x1#4, 0x2#4, 0x3#4, 0x4#4, 0x5#4] := by revert o; decide
  have hhigh : (0b011#3 ++ o).extractLsb' 1 3 = 0b011#3 := by revert o; decide
  have hopen : (0b011#3 ++ o).extractLsb' 0 1 = o := by revert o; decide
  rw [decodeWrite_rsvd d hrow, if_pos hhigh, hopen]

theorem decodeWrite_rsvd8toF (o : BitVec 3) (d : Byte) : decodeWrite (0b1#1 ++ o) d = .wrRsvd8toF o d := by
  have hrow : 0b1#1 ++ o ∉ [0x0#4, 0x1#4, 0x2#4, 0x3#4, 0x4#4, 0x5#4] := by revert o; decide
  have hhigh : (0b1#1 ++ o).extractLsb' 1 3 ≠ 0b011#3 := by revert o; decide
  have hopen : (0b1#1 ++ o).extractLsb' 0 3 = o := by revert o; decide
  rw [decodeWrite_rsvd d hrow, if_neg hhigh, hopen]

/-- The data bytes START and KICK aside, a write of CMD is the reserved one (R59, R103). -/
theorem decodeWrite_command {d : Byte} (h : WellFormed (.wrCmdRsvd d) = true) :
    decodeWrite 0x0#4 d = .wrCmdRsvd d := by
  obtain ⟨h1, h2⟩ : d ≠ 0x01#8 ∧ d ≠ 0x02#8 := by simpa [WellFormed] using h
  show decodeCommand d = _
  rw [decodeCommand, if_neg h1, if_neg h2]

/-- Settles O2: a read's or write's word decodes to what stands at its offset, and that is the operation encoded. -/
theorem decodeOfEncode : Obligations.DecodeOfEncode := by
  intro i hi
  cases i with
  | rdCmd | rdStatus | rdBtnLo | rdBtnHi | rdWdtctrl | rdRsvd5 => exact decode_encodeRead _
  | rdRsvd6to7 o => exact (decode_encodeRead _).trans (congrArg _ (decodeRead_rsvd6to7 o))
  | rdRsvd8toF o => exact (decode_encodeRead _).trans (congrArg _ (decodeRead_rsvd8toF o))
  | wrCmdStart | wrCmdKick => exact decode_encodeWrite _ _
  | wrCmdRsvd d => exact (decode_encodeWrite _ _).trans (congrArg _ (decodeWrite_command hi))
  | wrStatus | wrBtnLo | wrBtnHi | wrWdtctrl | wrRsvd5 => exact decode_encodeWrite _ _
  | wrRsvd6to7 o d => exact (decode_encodeWrite _ _).trans (congrArg _ (decodeWrite_rsvd6to7 o d))
  | wrRsvd8toF o d => exact (decode_encodeWrite _ _).trans (congrArg _ (decodeWrite_rsvd8toF o d))
  | cli | sei | sleep | seiSleep => rfl

/-- Settles O1: each written-out word is the word of its operation, and so read back from it. -/
theorem spelledWordsDecode : Obligations.SpelledWordsDecode :=
  ⟨decodeOfEncode .rdStatus rfl, decodeOfEncode (.rdRsvd8toF 6#3) rfl, decodeOfEncode .wrCmdStart rfl,
    decodeOfEncode (.wrCmdRsvd 0x03#8) rfl, decodeOfEncode (.wrWdtctrl 0xA5#8) rfl,
    decodeOfEncode (.wrRsvd6to7 1#1 0xFF#8) rfl, decodeOfEncode .seiSleep rfl⟩

/-! ### The word of a decoded operation -/

/-- The operation `i` is well-formed and its word is `w`. -/
def Spells (i : Instr) (w : Word) : Prop := WellFormed i = true ∧ encode i = w

theorem decodeRead_spells (off : Offset) : Spells (decodeRead off) (encodeRead off) := by
  rcases offset_cases off with ⟨o, rfl⟩ | ⟨o, rfl⟩ | rfl | rfl | rfl | rfl | rfl | rfl
  · rw [decodeRead_rsvd6to7]
    exact ⟨rfl, rfl⟩
  · rw [decodeRead_rsvd8toF]
    exact ⟨rfl, rfl⟩
  all_goals exact ⟨rfl, rfl⟩

theorem decodeCommand_spells (d : Byte) : Spells (decodeCommand d) (encodeWrite 0x0#4 d) := by
  unfold decodeCommand
  split
  case isTrue h1 => subst d; exact ⟨rfl, rfl⟩
  case isFalse h1 =>
    split
    case isTrue h2 => subst d; exact ⟨rfl, rfl⟩
    case isFalse h2 => exact ⟨by simp [WellFormed, h1, h2], rfl⟩

theorem decodeWrite_spells (off : Offset) (d : Byte) : Spells (decodeWrite off d) (encodeWrite off d) := by
  rcases offset_cases off with ⟨o, rfl⟩ | ⟨o, rfl⟩ | rfl | rfl | rfl | rfl | rfl | rfl
  · rw [decodeWrite_rsvd6to7]
    exact ⟨rfl, rfl⟩
  · rw [decodeWrite_rsvd8toF]
    exact ⟨rfl, rfl⟩
  · exact decodeCommand_spells d
  all_goals exact ⟨rfl, rfl⟩

theorem decodePrim_spells {p : Byte} {i : Instr} (h : decodePrim p = .ok i) : Spells i (formatC p) := by
  unfold decodePrim at h
  repeat' split at h
  all_goals cases h
  all_goals subst p; exact ⟨rfl, rfl⟩

/-! ### The decoder by class (R54) -/

theorem decode_class00 {w : Word} (h : wordCls w = 0b00#2) :
    decode w = if wordRsvB w = 0#2 then
      if wordData w = 0x00#8 then .ok (decodeRead (wordOff w)) else .error .readWithData
    else .error .reservedBitsB := by
  simp [decode, h]

theorem decode_class01 {w : Word} (h : wordCls w = 0b01#2) :
    decode w = if wordRsvB w = 0#2 then .ok (decodeWrite (wordOff w) (wordData w)) else .error .reservedBitsB := by
  simp [decode, h]

theorem decode_class10 {w : Word} (h : wordCls w = 0b10#2) :
    decode w = if wordRsvC w = 0#6 then decodePrim (wordData w) else .error .reservedBitsC := by
  simp [decode, h]

theorem decode_class11 {w : Word} (h : wordCls w = 0b11#2) : decode w = .error .invalidClass := by
  simp [decode, h]

theorem class_cases (c : BitVec 2) : c = 0b00#2 ∨ c = 0b01#2 ∨ c = 0b10#2 ∨ c = 0b11#2 := by
  revert c
  decide

theorem encodeRead_fields {w : Word} (hc : wordCls w = 0b00#2) (hr : wordRsvB w = 0#2) (hd : wordData w = 0x00#8) :
    encodeRead (wordOff w) = w := by
  rw [encodeRead, ← hc, ← hd]
  exact (word_of_fieldsB w hr).symm

theorem encodeWrite_fields {w : Word} (hc : wordCls w = 0b01#2) (hr : wordRsvB w = 0#2) :
    encodeWrite (wordOff w) (wordData w) = w := by
  rw [encodeWrite, ← hc]
  exact (word_of_fieldsB w hr).symm

/-- Settles O3: a word that decodes has no bit outside the fields that its class reads, so its fields give it back. -/
theorem encodeOfDecode : Obligations.EncodeOfDecode := by
  intro w i h
  change Spells i w
  rcases class_cases (wordCls w) with hc | hc | hc | hc
  · rw [decode_class00 hc] at h
    split_ifs at h with hr hd
    cases h
    have hw := decodeRead_spells (wordOff w)
    rwa [encodeRead_fields hc hr hd] at hw
  · rw [decode_class01 hc] at h
    split_ifs at h with hr
    cases h
    have hw := decodeWrite_spells (wordOff w) (wordData w)
    rwa [encodeWrite_fields hc hr] at hw
  · rw [decode_class10 hc] at h
    split_ifs at h with hr
    exact word_of_fieldsC w hc hr ▸ decodePrim_spells h
  · rw [decode_class11 hc] at h
    cases h

/-! ### The invalid words (R61) -/

/-- The PRIM codes above 0x03 are unknown (R60, R61). -/
theorem decodePrim_unknown {p : Byte} (h : 0x03#8 < p) : decodePrim p = .error .unknownPrimitive := by
  have h0 : p ≠ 0x00#8 := by rintro rfl; exact absurd h (by decide)
  have h1 : p ≠ 0x01#8 := by rintro rfl; exact absurd h (by decide)
  have h2 : p ≠ 0x02#8 := by rintro rfl; exact absurd h (by decide)
  have h3 : p ≠ 0x03#8 := by rintro rfl; exact absurd h (by decide)
  rw [decodePrim, if_neg h0, if_neg h1, if_neg h2, if_neg h3]

/-- The other four codes are the host-core primitives. -/
theorem decodePrim_known {p : Byte} (h : ¬ 0x03#8 < p) : ∃ i, decodePrim p = .ok i := by
  have hp : p = 0x00#8 ∨ p = 0x01#8 ∨ p = 0x02#8 ∨ p = 0x03#8 := by bv_omega
  rcases hp with rfl | rfl | rfl | rfl <;> exact ⟨_, rfl⟩

/-- The decoder refuses exactly the four items of R61. -/
theorem decode_error_iff (w : Word) : (∃ why, decode w = .error why) ↔
    (wordCls w = 0b11#2 ∨
     ((wordCls w = 0b00#2 ∨ wordCls w = 0b01#2) ∧ wordRsvB w ≠ 0b00#2) ∨
     (wordCls w = 0b00#2 ∧ wordData w ≠ 0x00#8) ∨
     (wordCls w = 0b10#2 ∧ (wordRsvC w ≠ 0#6 ∨ 0x03#8 < wordData w))) := by
  rcases class_cases (wordCls w) with hc | hc | hc | hc
  · rw [decode_class00 hc]
    by_cases hr : wordRsvB w = 0#2 <;> by_cases hd : wordData w = 0x00#8 <;> simp [hc, hr, hd]
  · rw [decode_class01 hc]
    by_cases hr : wordRsvB w = 0#2 <;> simp [hc, hr]
  · rw [decode_class10 hc]
    by_cases hr : wordRsvC w = 0#6
    · by_cases hp : 0x03#8 < wordData w
      · simp [hc, hr, hp, decodePrim_unknown hp]
      · obtain ⟨i, hi⟩ := decodePrim_known hp
        simp [hc, hr, hp, hi]
    · simp [hc, hr]
  · simp [decode_class11 hc, hc]

/-- A word is refused as invalid exactly when the decoder refuses it: a decoded operation always runs. -/
theorem runWord_invalid_iff (w : Word) (s : State) :
    (∃ why, runWord w s = .refused (.invalidWord why)) ↔ ∃ why, decode w = .error why := by
  cases hd : decode w with
  | ok i =>
    obtain ⟨t, ht⟩ := exec_answers i s
    simp [runWord, hd, ht]
  | error why => simp [runWord, hd]

/-- Settles O4: by what the decoder refuses, and by the window's edges for an access of more bytes. -/
theorem invalidWordsAndWidthsAreRefused : Obligations.InvalidWordsAndWidthsAreRefused := by
  refine ⟨fun w s => (runWord_invalid_iff w s).trans (decode_error_iff w), fun a s hb hlo hhi => ?_⟩
  exact runAccess_width ((touches_iff _ _).mpr ⟨by omega, hhi⟩) (by omega)

/-! ### The opcode table -/

/-- Every word of the row has the value `v` in the `n` bits from bit `a` up. -/
abbrev Fixes (r : TableRow) (a n : Nat) (v : BitVec n) : Prop :=
  r.mask.extractLsb' a n = BitVec.allOnes n ∧ r.pattern.extractLsb' a n = v

theorem field_of_covers {r : TableRow} {w : Word} {a n : Nat} {v : BitVec n} (h : r.covers w = true)
    (hf : Fixes r a n v) : w.extractLsb' a n = v := by
  obtain ⟨hmask, hpattern⟩ := hf
  have hw : w &&& r.mask = r.pattern := by simpa [TableRow.covers] using h
  rw [← hpattern, ← hw, BitVec.extractLsb'_and, hmask, BitVec.and_allOnes]

/-- Every row is one of reads, of writes or of primitives, and fixes the fields that make such a word valid (R58 to
R60). -/
theorem opcodeTable_fixes : ∀ r ∈ opcodeTable,
    (Fixes r 14 2 0b00#2 ∧ Fixes r 12 2 0#2 ∧ Fixes r 0 8 0x00#8) ∨
    (Fixes r 14 2 0b01#2 ∧ Fixes r 12 2 0#2) ∨
    (Fixes r 14 2 0b10#2 ∧ Fixes r 8 6 0#6 ∧ Fixes r 0 8 (wordData r.pattern) ∧
      ¬ 0x03#8 < wordData r.pattern) := by
  decide

/-- A word in a row of the table decodes. -/
theorem decode_of_covers {r : TableRow} {w : Word} (hr : r ∈ opcodeTable) (h : r.covers w = true) :
    ∃ i, decode w = .ok i := by
  rcases opcodeTable_fixes r hr with ⟨hc, hz, hd⟩ | ⟨hc, hz⟩ | ⟨hc, hz, hd, hp⟩
  · have hw := encodeRead_fields (field_of_covers h hc) (field_of_covers h hz) (field_of_covers h hd)
    exact ⟨_, hw ▸ decode_encodeRead (wordOff w)⟩
  · have hw := encodeWrite_fields (field_of_covers h hc) (field_of_covers h hz)
    exact ⟨_, hw ▸ decode_encodeWrite (wordOff w) (wordData w)⟩
  · have hprim : wordData w = wordData r.pattern := field_of_covers h hd
    have hzero : wordRsvC w = 0#6 := field_of_covers h hz
    rw [decode_class10 (field_of_covers h hc), if_pos hzero, hprim]
    exact decodePrim_known hp

/-- The encoded word of every operation lies in the operation's row, by the row's own lemma. -/
theorem rowOf_covers_encode (i : Instr) : (rowOf i).covers (encode i) = true := by
  open Laws.EncodingRow in
  cases i with
  | rdCmd => exact rdCmd
  | rdStatus => exact rdStatus
  | rdBtnLo => exact rdBtnLo
  | rdBtnHi => exact rdBtnHi
  | rdWdtctrl => exact rdWdtctrl
  | rdRsvd5 => exact rdRsvd5
  | rdRsvd6to7 o => exact rdRsvd6to7 o
  | rdRsvd8toF o => exact rdRsvd8toF o
  | wrCmdStart => exact wrCmdStart
  | wrCmdKick => exact wrCmdKick
  | wrCmdRsvd d => exact wrCmdRsvd d
  | wrStatus d => exact wrStatus d
  | wrBtnLo d => exact wrBtnLo d
  | wrBtnHi d => exact wrBtnHi d
  | wrWdtctrl d => exact wrWdtctrl d
  | wrRsvd5 d => exact wrRsvd5 d
  | wrRsvd6to7 o d => exact wrRsvd6to7 o d
  | wrRsvd8toF o d => exact wrRsvd8toF o d
  | cli => exact cli
  | sei => exact sei
  | sleep => exact sleep
  | seiSleep => exact seiSleep

/-- The operand aside, each operation is one of the table's samples. -/
theorem rowOf_mem_opcodeTable (i : Instr) : rowOf i ∈ opcodeTable := by
  cases i <;> simp [opcodeTable, rowSamples, rowOf]

/-- A decoded word lies in its operation's row: it is that operation's word. -/
theorem rowOf_covers_decoded {w : Word} {i : Instr} (h : decode w = .ok i) : (rowOf i).covers w = true := by
  obtain ⟨-, rfl⟩ := encodeOfDecode w i h
  exact rowOf_covers_encode i

/-- Settles O5: a valid word is its operation's word, which the row covers; a row fixes what makes a word valid. -/
theorem validWordsAreTheTableRows : Obligations.ValidWordsAreTheTableRows := by
  refine ⟨fun w => ⟨?_, ?_⟩, fun w i h => ⟨rowOf_covers_decoded h, rowOf_mem_opcodeTable i⟩⟩
  · rintro ⟨i, h⟩
    exact List.any_eq_true.mpr ⟨rowOf i, rowOf_mem_opcodeTable i, rowOf_covers_decoded h⟩
  · intro h
    obtain ⟨r, hr, hcov⟩ := List.any_eq_true.mp h
    exact decode_of_covers hr hcov

/-! ### READ_CONTROLLER (R65) -/

/-- A scheduled HOST turn that may run, at a poll loop: the byte is returned, and the loop goes round while
the bit reads 1. -/
theorem step_readWhile {s : State} {ts : List Turn} {off : Offset} {bit : Nat} {rest : List Request}
    (ht : s.turns = .host :: ts) (he : hostEnabled s = true) (hp : s.prog = .readWhile off bit :: rest) :
    step s = .next { s with
      turns := ts
      rdata := regRead off s
      prog := if (regRead off s).getLsbD bit then .readWhile off bit :: rest else rest } :=
  (step_request ht he hp).trans (runReadWhile_eq off bit _)

/-- A scheduled HOST turn that may run, at a read: the byte is returned. -/
theorem step_read {s : State} {ts : List Turn} {i : Instr} {off : Offset} {rest : List Request}
    (ht : s.turns = .host :: ts) (he : hostEnabled s = true) (hp : s.prog = request i :: rest)
    (hi : encode i = encodeRead off) :
    step s = .next { s with turns := ts, prog := rest, rdata := regRead off s } := by
  refine (step_word ht hp he (hi ▸ decode_encodeRead off)).trans ?_
  exact exec_decodeRead off _

/-- `{hi, lo}` puts the two bytes of the bitmap back together (R43). -/
theorem controllerValue_buttons (s : State) : controllerValue (btnHiByte s) (btnLoByte s) = s.buttons := by
  have h := BitVec.extractLsb'_append_extractLsb'_eq_extractLsb'
    (x := s.buttons) (start₁ := 0) (len₁ := 8) (start₂ := 8) (len₂ := 8) rfl
  exact h.trans BitVec.extractLsb'_eq_self

/-- Settles O58: one round of the loop by BUSY, which is bit 0 of STATUS; then the two reads. -/
theorem readControllerPollsAndReturnsButtons : Obligations.ReadControllerPollsAndReturnsButtons := by
  intro s ts rest he hp
  have hq : s.prog = .readWhile 0x1#4 0 :: request .rdBtnLo :: request .rdBtnHi :: rest := hp
  refine ⟨fun ht hbusy => ?_, fun ht hidle => ?_⟩
  · have hbit : (regRead 0x1#4 s).getLsbD 0 = true := by rw [status_bit_busy]; simpa [busy] using hbusy
    refine ⟨?_, hbit⟩
    rw [step_readWhile ht he hq, if_pos hbit, ← hq]
  · have hbit : (regRead 0x1#4 s).getLsbD 0 = false := by rw [status_bit_busy]; simpa [busy] using hidle
    have hpoll := step_readWhile ht he hq
    rw [hbit] at hpoll
    refine ⟨_, _, _, hpoll, step_read rfl he rfl (off := 0x2#4) rfl, step_read rfl he rfl (off := 0x3#4) rfl,
      hbit, ?_, rfl⟩
    exact controllerValue_buttons s

end Sys2Proof.Proofs

/-! ## Proofs of the controller reader's statements: START, the button reads, each phase of a CORE_TICK, the reference
controller, and a whole read. -/

namespace Sys2Proof.Proofs

open Sys2Proof Sys2Proof.Machine Sys2Proof.Safety

/-! ### The reads of BUTTONS, and START -/

/-- Settles O14: the two bytes are the two halves of BUTTONS, bit by bit and put together again. -/
theorem buttonReadsSplitTheBitmap : Obligations.ButtonReadsSplitTheBitmap := by
  refine fun s => ⟨btnLoByte s, btnHiByte s, rfl, rfl, fun n hn => ?_, controllerValue_buttons s, fun hz => ?_⟩
  · simp only [btnLoByte, btnHiByte, BitVec.getLsbD_extractLsb', hn, decide_true, Bool.true_and, Nat.zero_add,
      Nat.add_comm 8 n, and_self]
  · rw [← controllerValue_buttons s, controllerValue, BitVec.extractLsb'_append_eq_of_le (by decide)] at hz
    exact hz

theorem exec_start_of_idle {s : State} (h : s.seq.phase = .idle) : exec .wrCmdStart s = .next (startRead s) := by
  show Host.Outcome.next (if busy s then s else startRead s) = _
  rw [if_neg (by simp [busy, h])]

theorem exec_start_of_busy {s : State} (h : s.seq.phase ≠ .idle) : exec .wrCmdStart s = .next s := by
  show Host.Outcome.next (if busy s then s else startRead s) = _
  rw [if_pos (by simp [busy, h])]

/-- Settles O17: idle, the operation is `startRead`, which writes SEQ and drives the pins alone. -/
theorem startBeginsARead : Obligations.StartBeginsARead := by
  refine fun s hi => ⟨startRead s, exec_start_of_idle hi, rfl, rfl, rfl, ?_, rfl, fun off hoff => ?_⟩
  · rw [status_bit_busy]; rfl
  · exact regRead_startRead s hoff

/-- Settles O18: busy, the operation leaves the state as it is. -/
theorem startWhileBusyIsIgnored : Obligations.StartWhileBusyIsIgnored :=
  fun _ h => exec_start_of_busy h

/-! ### The environment's turns -/

theorem step_of_turn {s : State} {t : Turn} (h : nextTurn s = t) : step s = takeTurn t (popTurn s) :=
  congrArg (takeTurn · (popTurn s)) h

/-- Settles O60: each turn writes its one element; the controller's new value depends on whether one is attached. -/
theorem environmentTurnsMoveOnlyTheEnvironment : Obligations.EnvironmentTurnsMoveOnlyTheEnvironment := by
  refine fun s => ⟨fun level h => step_of_turn h, fun h => step_of_turn h, fun h => step_of_turn h,
    fun w r h hc => ?_, fun w h hc => ?_⟩
  all_goals
    rw [step_of_turn h]
    simp only [takeTurn, setWires, popTurn_controller, popTurn_latch, hc, Option.map_some, nButtons]

/-! ### One CORE_TICK of the reader, by phase -/

theorem coreTick_idle {s : State} (hp : s.seq.phase = .idle) :
    (coreTick s).seq = s.seq ∧ (coreTick s).buttons = s.buttons ∧
    (coreTick s).latch = s.latch ∧ (coreTick s).clock = s.clock := by
  simpa [hp] using coreTick_seq s

theorem coreTick_latchHold_counts {s : State} (hp : s.seq.phase = .latchHold) (hc : s.seq.cnt - 1 ≠ 0) :
    (coreTick s).seq = { s.seq with cnt := s.seq.cnt - 1 } ∧ (coreTick s).buttons = s.buttons ∧
    (coreTick s).latch = s.latch ∧ (coreTick s).clock = s.clock := by
  simpa [hp, hc] using coreTick_seq s

theorem coreTick_latchHold_ends {s : State} (hp : s.seq.phase = .latchHold) (hc : s.seq.cnt - 1 = 0) :
    (coreTick s).seq = { s.seq with cnt := 0, phase := .sample } ∧ (coreTick s).buttons = s.buttons ∧
    (coreTick s).latch = false ∧ (coreTick s).clock = s.clock := by
  simpa [hp, hc] using coreTick_seq s

theorem coreTick_sample {s : State} (hp : s.seq.phase = .sample) :
    (coreTick s).seq = { s.seq with
      shift := setBit s.seq.shift s.seq.k (!s.dsync2), cnt := s.build.settleCycles, phase := .clkLow } ∧
    (coreTick s).buttons = s.buttons ∧ (coreTick s).latch = s.latch ∧ (coreTick s).clock = false := by
  simpa [hp] using coreTick_seq s

theorem coreTick_clkLow_counts {s : State} (hp : s.seq.phase = .clkLow) (hc : s.seq.cnt - 1 ≠ 0) :
    (coreTick s).seq = { s.seq with cnt := s.seq.cnt - 1 } ∧ (coreTick s).buttons = s.buttons ∧
    (coreTick s).latch = s.latch ∧ (coreTick s).clock = s.clock := by
  simpa [hp, hc] using coreTick_seq s

theorem coreTick_clkLow_rises {s : State} (hp : s.seq.phase = .clkLow) (hc : s.seq.cnt - 1 = 0)
    (hk : s.seq.k ≠ 11) :
    (coreTick s).seq = { s.seq with cnt := 0, k := s.seq.k + 1, phase := .sample } ∧
    (coreTick s).buttons = s.buttons ∧ (coreTick s).latch = s.latch ∧ (coreTick s).clock = true := by
  simpa [hp, hc, hk] using coreTick_seq s

theorem coreTick_clkLow_commits {s : State} (hp : s.seq.phase = .clkLow) (hc : s.seq.cnt - 1 = 0)
    (hk : s.seq.k = 11) :
    (coreTick s).seq = { s.seq with cnt := 0, k := 0, phase := .idle } ∧
    (coreTick s).buttons = s.seq.shift.zeroExtend 16 ∧ (coreTick s).latch = s.latch ∧
    (coreTick s).clock = true := by
  simpa [hp, hc, hk] using coreTick_seq s

/-- Settles O27: LATCH_HOLD counts while its counter is above 1, and ends at 1. -/
theorem coreTickIdleAndLatchHold : Obligations.CoreTickIdleAndLatchHold := by
  refine fun s => ⟨fun hp => ?_, fun hp hc => ?_⟩
  · simp [coreTick_idle hp]
  · by_cases h1 : s.seq.cnt = 1
    · simp [coreTick_latchHold_ends hp (by omega), h1]
    · simp [coreTick_latchHold_counts hp (by omega), h1, hp]

/-- Settles O28: what SAMPLE writes to SHIFT is the write of one bit. -/
theorem coreTickSamplesOneBit : Obligations.CoreTickSamplesOneBit := by
  intro s hp hk
  obtain ⟨hq, hn, hl, hc⟩ := coreTick_sample hp
  refine ⟨fun j => ?_, ?_⟩
  · rw [hq]
    exact setBit_getLsbD _ _ j _ (by omega)
  · simp [hq, hn, hl, hc]

/-- Bit by bit, a committed bitmap is the twelve bits with zeros above. -/
theorem zeroExtend_getLsbD (v : Buttons) (j : Nat) :
    (v.zeroExtend 16).getLsbD j = (decide (j < 12) && v.getLsbD j) := by
  by_cases hj : j < 12
  · simp [hj, show j < 16 by omega]
  · simp [hj, BitVec.getLsbD_of_ge v j (by omega)]

/-- Settles O29: a tick of CLK_LOW counts, or raises CLOCK for the next sample, or commits. -/
theorem coreTickRaisesClockAndCommits : Obligations.CoreTickRaisesClockAndCommits := by
  intro s hp hc
  by_cases h1 : s.seq.cnt = 1
  · by_cases hk : s.seq.k = 11
    · obtain ⟨hq, hn, hl, hck⟩ := coreTick_clkLow_commits hp (by omega) hk
      have hbits (j : Nat) : (coreTick s).buttons.getLsbD j = (decide (j < 12) && s.seq.shift.getLsbD j) := by
        rw [hn, zeroExtend_getLsbD]
      simp only [hbits]
      simp [hq, hl, hck, h1, hk]
    · simp [coreTick_clkLow_rises hp (by omega) hk, h1, hk]
  · simp [coreTick_clkLow_counts hp (by omega), h1, hp]

/-! ### The level that a CORE_TICK takes from the pin -/

theorem dataLevel_of_none {s : State} (hc : s.controller = none) : dataLevel s = s.dataPin := by
  rw [dataLevel, hc]

theorem settled_iff (tResp : Nat) (r : Controller) : r.settled tResp = true ↔ tResp ≤ r.age + 1 ∧ r.pos < 12 := by
  rw [Controller.settled, Bool.and_eq_true, decide_eq_true_eq, decide_eq_true_eq]
  rfl

theorem dataLevel_of_settled {s : State} {r : Controller} (hc : s.controller = some r)
    (ht : s.build.tResp ≤ r.age + 1) (hp : r.pos < 12) : dataLevel s = r.snap.getLsbD r.pos := by
  simp only [dataLevel, hc, if_pos ((settled_iff _ r).mpr ⟨ht, hp⟩)]

theorem dataLevel_of_unsettled {s : State} {r : Controller} (hc : s.controller = some r)
    (hr : r.age + 1 < s.build.tResp ∨ 12 ≤ r.pos) : dataLevel s = s.dataPin := by
  have hs : ¬ r.settled s.build.tResp = true := fun h => by
    have hsettled := (settled_iff _ r).mp h
    omega
  simp only [dataLevel, hc, if_neg hs]

/-- Settles O25: the shifts are the laws of the single fields, and every field that is named in no shift is kept. -/
theorem coreTickShiftsSynchronisersAndLeavesTheRest : Obligations.CoreTickShiftsSynchronisersAndLeavesTheRest := by
  intro s
  refine ⟨coreTick_dsync2 s, coreTick_dsync1 s, fun hc => ?_, fun r hc ht hp => ?_, fun r hc hr => ?_,
    coreTick_wkR2 s, coreTick_wkR1 s, coreTick_kkA2 s, coreTick_kkA1 s, ?_⟩
  · rw [coreTick_dsync1, dataLevel_of_none hc]
  · rw [coreTick_dsync1, dataLevel_of_settled hc ht hp]
  · rw [coreTick_dsync1, dataLevel_of_unsettled hc hr]
  · rw [← coreTick_build s, ← coreTick_wde s, ← coreTick_kkReq s, ← coreTick_wdt s, ← coreTick_gie s,
      ← coreTick_sleeping s, ← coreTick_otherPend s, ← coreTick_vectoredTo s, ← coreTick_dataPin s,
      ← coreTick_rdata s, ← coreTick_prog s, ← coreTick_turns s, ← coreTick_draws s]

/-! ### The reference controller -/

/-- The controller's invariant speaks of the controller and LATCH alone. -/
theorem controllerOk_congr {s u : State} (hc : u.controller = s.controller) (hl : u.latch = s.latch)
    (hs : ControllerOk s) : ControllerOk u := by
  simpa only [ControllerOk, hc, hl] using hs

/-- Whatever the pins are driven to, LATCH at 1 puts the controller at its first button and its current inputs. -/
theorem controllerOk_drivePins {s : State} (hs : ControllerOk s) (l c : Bool) : ControllerOk (drivePins l c s) := by
  intro r hr
  obtain ⟨r₀, hr₀, rfl⟩ := Option.map_eq_some_iff.mp hr
  obtain ⟨hpos, -⟩ := hs r₀ hr₀
  cases l with
  | true => simp [Controller.observe]
  | false =>
    simp [Controller.observe]
    split <;> omega

/-- One more tick of the response count moves neither the output nor the capture. -/
theorem controllerOk_responseTick {s : State} (hs : ControllerOk s) : ControllerOk (responseTick s) := by
  intro r hr
  obtain ⟨r₀, hr₀, rfl⟩ := Option.map_eq_some_iff.mp hr
  exact hs r₀ hr₀

/-- Driving the pins to the levels that they have is nothing to the controller. -/
theorem drivePins_controller_same {s : State} (hs : ControllerOk s) :
    (drivePins s.latch s.clock s).controller = s.controller := by
  cases hc : s.controller with
  | none => simp [hc]
  | some r =>
    obtain ⟨wire, snap, pos, age⟩ := r
    obtain ⟨-, hl⟩ := hs _ hc
    cases h : s.latch with
    | false => simp [hc, h, Controller.observe]
    | true =>
      obtain ⟨hp, hw⟩ : pos = 0 ∧ snap = wire := hl h
      simp [hc, h, Controller.observe, hp, hw]

/-- A CORE_TICK is one more tick of the response count, and then what the controller makes of the new pins (R80). -/
theorem coreTick_controller {s : State} (hs : ControllerOk s) :
    (coreTick s).controller = (drivePins (coreTick s).latch (coreTick s).clock (responseTick s)).controller := by
  have hsame := drivePins_controller_same (controllerOk_responseTick hs)
  simp only [responseTick_latch, responseTick_clock] at hsame
  unfold coreTick seqTick
  cases hp : s.seq.phase with
  | idle => simpa using hsame.symm
  | sample => simp [sampleTick]
  | latchHold =>
    by_cases hc : s.seq.cnt - 1 = 0
    · simp [latchHoldTick, hc]
    · simpa [latchHoldTick, hc] using hsame.symm
  | clkLow =>
    by_cases hc : s.seq.cnt - 1 = 0
    · by_cases hk : s.seq.k = 11 <;> simp [clkLowTick, hc, hk]
    · simpa [clkLowTick, hc] using hsame.symm

/-- A controller that is attached or moved while LATCH is 1 shows its new inputs from the first. -/
theorem controllerOk_setWires {s : State} (hs : ControllerOk s) (w : Option Buttons) : ControllerOk (setWires w s) := by
  intro r hr
  obtain ⟨v, -, rfl⟩ := Option.map_eq_some_iff.mp hr
  cases hc : s.controller with
  | none => cases hl : s.latch <;> simp [nButtons, hl]
  | some r₀ =>
    obtain ⟨hpos, hl⟩ := hs r₀ hc
    refine ⟨hpos, fun h => ?_⟩
    have h' : s.latch = true := h
    simp [hl h, h']

theorem controllerOk_kept : KeptByEveryOperation ControllerOk where
  coreTick s h := controllerOk_congr (coreTick_controller h) rfl
    (controllerOk_drivePins (controllerOk_responseTick h) _ _)
  wdtTick s h hx := by rw [wdtTick_eq s hx]; exact h
  fullReset s h := controllerOk_congr (fullReset_controller s) rfl (controllerOk_drivePins h _ _)
  returnByte v s h := h
  startRead s h _ := controllerOk_congr (startRead_controller s) rfl (controllerOk_drivePins h true true)
  departKick s h := controllerOk_congr (departKick_controller s) (departKick_latch s) h
  writeStatus d s h := h
  writeWdtCtrl d s h := h
  gate s g z h := h
  request s p d h := h
  takeIrq s h := by rw [takeIrq_eq]; exact h
  setData d s h := h
  raiseOther s h := h
  setWires w s h := controllerOk_setWires h w

/-- Settles O38: only pin changes, the response count and the wires reach the controller, and each keeps it well. -/
theorem everyStepKeepsTheController : Obligations.EveryStepKeepsTheController := by
  intro s t hs h
  refine step_keeps controllerOk_kept (fun u hu => ?_) hs h
  exact controllerOk_congr (popTurn_controller u) (popTurn_latch u) hu

/-! ### Where a read stands, tick by tick -/

/-- How many of the twelve samples have been taken: CLOCK is low after each until its rise. -/
def samplesTaken (q : Seq) : Nat :=
  match q.phase with
  | .latchHold => 0
  | .sample => q.k
  | .clkLow => q.k + 1
  | .idle => 12

theorem sampleAt_succ (settle k : Nat) : sampleAt settle (k + 1) = sampleAt settle k + settle + 1 := by
  unfold sampleAt
  ring

theorem sampleAt_zero (settle : Nat) : sampleAt settle 0 = settle + 1 := by
  simp [sampleAt]

/-- CLOCK rises in the tick before the next sample. -/
theorem riseAt_succ (settle k : Nat) : riseAt settle k + 1 = sampleAt settle (k + 1) := by
  unfold riseAt sampleAt
  ring

/-- A read commits where a thirteenth sample would be next. -/
theorem commitAt_succ (settle : Nat) : commitAt settle + 1 = sampleAt settle 12 := by
  unfold commitAt sampleAt
  ring

/-- Between two samples lies at least one settle delay. -/
theorem sampleAt_gap {k m : Nat} (settle : Nat) (h : k < m) :
    sampleAt settle k + settle + 1 ≤ sampleAt settle m := by
  have hmul : (k + 1) * (settle + 1) ≤ m * (settle + 1) := Nat.mul_le_mul_right _ h
  rw [← sampleAt_succ]
  unfold sampleAt
  omega

/-- Where a read stands `n` CORE_TICKs after its START (R69): the settle delay of LATCH, then for each button one tick
that samples and a settle delay with CLOCK low, until BUTTONS is the committed bitmap. When the delay that is left has
gone by, the next tick is that of the next sample. -/
inductive ReadAt (n : Nat) (s : State) : Prop
  | hold (phase : s.seq.phase = .latchHold) (button : s.seq.k = 0)
      (left : 1 ≤ s.seq.cnt ∧ s.seq.cnt ≤ s.build.settleCycles)
      (time : n + s.seq.cnt + 1 = sampleAt s.build.settleCycles 0)
      (pins : s.latch = true ∧ s.clock = true)
  | sample (phase : s.seq.phase = .sample) (button : s.seq.k ≤ 11) (left : s.seq.cnt = 0)
      (time : n + 1 = sampleAt s.build.settleCycles s.seq.k)
      (pins : s.latch = false ∧ s.clock = true)
  | low (phase : s.seq.phase = .clkLow) (button : s.seq.k ≤ 11)
      (left : 1 ≤ s.seq.cnt ∧ s.seq.cnt ≤ s.build.settleCycles)
      (time : n + s.seq.cnt + 1 = sampleAt s.build.settleCycles (s.seq.k + 1))
      (pins : s.latch = false ∧ s.clock = false)
  | done (phase : s.seq.phase = .idle) (left : s.seq.cnt = 0)
      (time : n + 1 = sampleAt s.build.settleCycles 12)
      (pins : s.latch = false ∧ s.clock = true) (commit : s.buttons = s.seq.shift.zeroExtend 16)

theorem readAt_startRead {s : State} (hl : s.build.Legal) : ReadAt 0 (startRead s) :=
  .hold rfl rfl ⟨one_le_settleCycles hl, le_rfl⟩ (by simp [sampleAt_zero]) ⟨rfl, rfl⟩

/-- The pin's level is no part of where a read stands. -/
theorem ReadAt.setData {n : Nat} {s : State} (h : ReadAt n s) (d : Bool) : ReadAt n (setData d s) := by
  cases h with
  | hold phase button left time pins => exact .hold phase button left time pins
  | sample phase button left time pins => exact .sample phase button left time pins
  | low phase button left time pins => exact .low phase button left time pins
  | done phase left time pins commit => exact .done phase left time pins commit

/-- When the delay that is left has gone by, as many samples have been taken as buttons come before the next one. -/
theorem ReadAt.time {n : Nat} {s : State} (h : ReadAt n s) :
    n + s.seq.cnt + 1 = sampleAt s.build.settleCycles (samplesTaken s.seq) := by
  cases h <;> simp [samplesTaken, *]

theorem ReadAt.cnt_le {n : Nat} {s : State} (h : ReadAt n s) : s.seq.cnt ≤ s.build.settleCycles := by
  cases h <;> omega

/-- A read is over at its commit tick and not before. -/
theorem ReadAt.idle_iff {n : Nat} {s : State} (h : ReadAt n s) :
    s.seq.phase = .idle ↔ n = commitAt s.build.settleCycles := by
  have hcommit := commitAt_succ s.build.settleCycles
  cases h with
  | hold phase _ left time _ =>
    have hgap := sampleAt_gap s.build.settleCycles (show 0 < 12 by decide)
    simp only [phase, reduceCtorEq, false_iff]
    omega
  | sample phase button _ time _ =>
    have hgap := sampleAt_gap s.build.settleCycles (show s.seq.k < 12 by omega)
    simp only [phase, reduceCtorEq, false_iff]
    omega
  | low phase button left time _ =>
    have hgap := sampleAt_gap s.build.settleCycles (show s.seq.k < 12 by omega)
    rw [sampleAt_succ] at time
    simp only [phase, reduceCtorEq, false_iff]
    omega
  | done phase _ time _ _ =>
    simp only [phase, true_iff]
    omega

/-- LATCH is high for the first settle delay (R69). -/
theorem ReadAt.latch_iff {n : Nat} {s : State} (h : ReadAt n s) : s.latch = true ↔ n < s.build.settleCycles := by
  have hzero := sampleAt_zero s.build.settleCycles
  cases h with
  | hold _ _ left time pins =>
    simp only [pins, true_iff]
    omega
  | sample _ _ _ time pins =>
    simp only [pins, Bool.false_eq_true, false_iff]
    unfold sampleAt at time
    omega
  | low _ _ left time pins =>
    simp only [pins, Bool.false_eq_true, false_iff]
    rw [sampleAt_succ] at time
    unfold sampleAt at time
    omega
  | done _ _ time pins _ =>
    simp only [pins, Bool.false_eq_true, false_iff]
    unfold sampleAt at time
    omega

/-- In the tick before a sample CLOCK is high: the rise of the button before has come. -/
theorem no_clockLow_before_sample {settle n m : Nat} (h : n + 1 = sampleAt settle m) :
    ¬ ∃ k, k < 12 ∧ sampleAt settle k ≤ n ∧ n < riseAt settle k := by
  rintro ⟨k, -, hs, hr⟩
  have hrise := riseAt_succ settle k
  rcases lt_trichotomy m k with hlt | rfl | hgt
  · have := sampleAt_gap settle hlt
    omega
  · omega
  · rcases Nat.eq_or_lt_of_le (show k + 1 ≤ m from hgt) with rfl | hlt
    · omega
    · have := sampleAt_gap settle hlt
      omega

/-- CLOCK is low from each sample to the rise that ends its delay (R69). -/
theorem ReadAt.clock_iff {n : Nat} {s : State} (h : ReadAt n s) :
    s.clock = false ↔ ∃ k, k < 12 ∧ sampleAt s.build.settleCycles k ≤ n ∧ n < riseAt s.build.settleCycles k := by
  cases h with
  | hold _ _ left time pins =>
    simp only [pins, Bool.true_eq_false, false_iff]
    rintro ⟨k, -, hs, -⟩
    unfold sampleAt at hs time
    omega
  | sample _ _ _ time pins =>
    simp only [pins, Bool.true_eq_false, false_iff]
    exact no_clockLow_before_sample time
  | done _ _ time pins _ =>
    simp only [pins, Bool.true_eq_false, false_iff]
    exact no_clockLow_before_sample time
  | low _ button left time pins =>
    simp only [pins, true_iff]
    have hrise := riseAt_succ s.build.settleCycles s.seq.k
    have hnext := sampleAt_succ s.build.settleCycles s.seq.k
    exact ⟨s.seq.k, by omega, by omega, by omega⟩

/-- Each CORE_TICK of a read in progress takes it one tick on. -/
theorem readAt_coreTick {n : Nat} {s : State} (hl : s.build.Legal) (h : ReadAt n s) (hp : s.seq.phase ≠ .idle) :
    ReadAt (n + 1) (coreTick s) := by
  cases h with
  | hold phase button left time pins =>
    by_cases hc : s.seq.cnt - 1 = 0
    · obtain ⟨hq, -, hla, hck⟩ := coreTick_latchHold_ends phase hc
      refine .sample (by rw [hq]) ?_ ?_ ?_ ?_ <;> simp [hq, hla, hck, button, pins]
      omega
    · obtain ⟨hq, -, hla, hck⟩ := coreTick_latchHold_counts phase hc
      refine .hold (by rw [hq, phase]) ?_ ?_ ?_ ?_ <;> simp [hq, hla, hck, button, pins] <;> omega
  | sample phase button left time pins =>
    obtain ⟨hq, -, hla, hck⟩ := coreTick_sample phase
    refine .low (by rw [hq]) ?_ ?_ ?_ ?_ <;> simp [hq, hla, hck, button, pins]
    · exact one_le_settleCycles hl
    · rw [sampleAt_succ]
      omega
  | low phase button left time pins =>
    by_cases hc : s.seq.cnt - 1 = 0
    · by_cases hk : s.seq.k = 11
      · obtain ⟨hq, hn, hla, hck⟩ := coreTick_clkLow_commits phase hc hk
        refine .done (by rw [hq]) ?_ ?_ ?_ ?_ <;> simp [hq, hn, hla, hck, pins]
        simp only [hk, Nat.reduceAdd] at time
        omega
      · obtain ⟨hq, -, hla, hck⟩ := coreTick_clkLow_rises phase hc hk
        refine .sample (by rw [hq]) ?_ ?_ ?_ ?_ <;> simp [hq, hla, hck, pins] <;> omega
    · obtain ⟨hq, -, hla, hck⟩ := coreTick_clkLow_counts phase hc
      refine .low (by rw [hq, phase]) ?_ ?_ ?_ ?_ <;> simp [hq, hla, hck, button, pins] <;> omega
  | done phase => exact absurd phase hp

/-- In a tick of a read SHIFT keeps the samples taken before, and takes a new one in the tick that is due for it. -/
theorem shift_coreTick {n j : Nat} {s : State} (h : ReadAt n s) (hp : s.seq.phase ≠ .idle)
    (hj : j < samplesTaken (coreTick s).seq) :
    (j < samplesTaken s.seq ∧ (coreTick s).seq.shift.getLsbD j = s.seq.shift.getLsbD j) ∨
    (n + 1 = sampleAt s.build.settleCycles j ∧ (coreTick s).seq.shift.getLsbD j = !s.dsync2) := by
  cases h with
  | hold phase button left time pins =>
    by_cases hc : s.seq.cnt - 1 = 0
    · simp [coreTick_latchHold_ends phase hc, samplesTaken, button] at hj
    · simp [coreTick_latchHold_counts phase hc, samplesTaken, phase] at hj
  | sample phase button left time pins =>
    obtain ⟨hq, -⟩ := coreTick_sample phase
    rw [hq] at hj ⊢
    simp only [samplesTaken, phase] at hj ⊢
    rw [setBit_getLsbD _ _ _ _ (by omega)]
    rcases Nat.lt_succ_iff_lt_or_eq.mp hj with hlt | rfl
    · exact .inl ⟨hlt, if_neg hlt.ne⟩
    · exact .inr ⟨time, if_pos rfl⟩
  | low phase button left time pins =>
    left
    by_cases hc : s.seq.cnt - 1 = 0
    · by_cases hk : s.seq.k = 11
      · simpa [coreTick_clkLow_commits phase hc hk, samplesTaken, phase, hk] using hj
      · simpa [coreTick_clkLow_rises phase hc hk, samplesTaken, phase] using hj
    · simpa [coreTick_clkLow_counts phase hc, samplesTaken, phase] using hj
  | done phase => exact absurd phase hp

/-- A tick that leaves a read in progress leaves BUTTONS. -/
theorem coreTick_buttons_of_busy {s : State} (hp : (coreTick s).seq.phase ≠ .idle) :
    (coreTick s).buttons = s.buttons := by
  by_contra hne
  rcases takeTurn_buttons (t := .coreTick) rfl hne with hr | ⟨-, -, -, -, -, hidle⟩
  · simp [Resets] at hr
  · exact hp hidle

/-! ### A whole read -/

/-- The state after the first `n` ticks of a list of levels. -/
def afterTicks (ds : List Bool) (t : State) (n : Nat) : State := dataTicks (ds.take n) t

theorem afterTicks_succ {ds : List Bool} {n : Nat} (t : State) (h : n < ds.length) :
    afterTicks ds t (n + 1) = coreTick (setData ds[n] (afterTicks ds t n)) := by
  rw [afterTicks, List.take_succ_eq_append_getElem h, dataTicks_append]
  rfl

theorem afterTicks_length (ds : List Bool) (t : State) : afterTicks ds t ds.length = dataTicks ds t := by
  rw [afterTicks, List.take_length]

@[simp] theorem dataTicks_build (ds : List Bool) (t : State) : (dataTicks ds t).build = t.build := by
  induction ds generalizing t with
  | nil => rfl
  | cons d ds ih => simp [dataTicks, ih]

@[simp] theorem afterTicks_build (ds : List Bool) (t : State) (n : Nat) : (afterTicks ds t n).build = t.build :=
  dataTicks_build _ _

/-- DSYNC[2] holds the level that the pin had two ticks before (R71). -/
theorem afterTicks_dsync2 {ds : List Bool} {n : Nat} (t : State) (h : n + 1 < ds.length) :
    (afterTicks ds t (n + 2)).dsync2 = dataLevel (setData (ds[n]) (afterTicks ds t n)) := by
  rw [afterTicks_succ t h, afterTicks_succ t (Nat.lt_of_succ_lt h)]
  simp

section Read
variable {s : State} {ds : List Bool} (hl : s.build.Legal) (hlen : ds.length ≤ commitAt s.build.settleCycles)
include hl hlen

/-- The ticks take a read from its START on, one by one. -/
theorem readAt_afterTicks {n : Nat} (hn : n ≤ ds.length) : ReadAt n (afterTicks ds (startRead s) n) := by
  induction n with
  | zero => exact readAt_startRead hl
  | succ n ih =>
    have hat := ih (Nat.le_of_succ_le hn)
    have hbusy : (afterTicks ds (startRead s) n).seq.phase ≠ .idle := fun hp => by
      have htime := hat.idle_iff.mp hp
      rw [afterTicks_build, startRead_build] at htime
      omega
    rw [afterTicks_succ _ hn]
    exact readAt_coreTick (by simpa using hl) (hat.setData _) hbusy

theorem busy_afterTicks {n : Nat} (hn : n ≤ ds.length) (hlt : n < commitAt s.build.settleCycles) :
    (afterTicks ds (startRead s) n).seq.phase ≠ .idle := fun hp => by
  have htime := (readAt_afterTicks hl hlen hn).idle_iff.mp hp
  rw [afterTicks_build, startRead_build] at htime
  omega

theorem buttons_afterTicks {n : Nat} (hn : n ≤ ds.length) (hlt : n < commitAt s.build.settleCycles) :
    (afterTicks ds (startRead s) n).buttons = s.buttons := by
  induction n with
  | zero => rfl
  | succ n ih =>
    have hbusy := busy_afterTicks hl hlen hn hlt
    rw [afterTicks_succ _ hn] at hbusy ⊢
    exact (coreTick_buttons_of_busy hbusy).trans (ih (Nat.le_of_succ_le hn) (Nat.lt_of_succ_lt hlt))

/-- Each sample taken so far is the inverse of DSYNC[2] before its tick (R74). -/
theorem shift_afterTicks {n j : Nat} (hn : n ≤ ds.length)
    (hj : j < samplesTaken (afterTicks ds (startRead s) n).seq) :
    (afterTicks ds (startRead s) n).seq.shift.getLsbD j
      = !(afterTicks ds (startRead s) (sampleAt s.build.settleCycles j - 1)).dsync2 := by
  induction n with
  | zero => exact absurd hj (Nat.not_lt_zero j)
  | succ n ih =>
    have hbusy := busy_afterTicks hl hlen (Nat.le_of_succ_le hn) (by omega)
    have hat := (readAt_afterTicks hl hlen (Nat.le_of_succ_le hn)).setData ds[n]
    rw [afterTicks_succ _ hn] at hj ⊢
    rcases shift_coreTick hat hbusy hj with ⟨hbefore, hkeep⟩ | ⟨htime, hnew⟩
    · rw [hkeep]
      exact ih (Nat.le_of_succ_le hn) hbefore
    · rw [setData_build, afterTicks_build, startRead_build] at htime
      rw [hnew, ← htime]
      rfl

end Read

/-- Ticks with nobody touching the pin are ticks at the level that it has. -/
theorem coreTicks_eq_dataTicks (n : Nat) (t : State) :
    coreTicks n t = dataTicks (List.replicate n t.dataPin) t := by
  induction n generalizing t with
  | zero => rfl
  | succ n ih =>
    rw [coreTicks, ih, coreTick_dataPin]
    rfl

/-- Settles O50: the ticks take the read from START on, and the levels of the pins tell where it stands. -/
theorem pinTraceOfOneRead : Obligations.PinTraceOfOneRead := by
  intro s t n hl hi h hn
  rw [exec_start_of_idle hi] at h
  cases h
  have hat := readAt_afterTicks (ds := List.replicate n s.dataPin) hl (by simpa using hn) le_rfl
  have hrun : coreTicks n (startRead s) = dataTicks (List.replicate n s.dataPin) (startRead s) :=
    coreTicks_eq_dataTicks n (startRead s)
  have hbuild : (coreTicks n (startRead s)).build = s.build := by rw [hrun, dataTicks_build, startRead_build]
  rw [afterTicks_length, ← hrun, List.length_replicate] at hat
  rw [← hbuild]
  exact ⟨hat.latch_iff, hat.clock_iff, hat.idle_iff⟩

/-! ### A read's bitmap -/

section Commit
variable {s : State} {ds : List Bool} (hl : s.build.Legal) (hlen : ds.length = commitAt s.build.settleCycles)
include hl hlen

/-- The ticks of a whole read end in its commit. -/
theorem dataTicks_commits : (dataTicks ds (startRead s)).seq.phase = .idle ∧
    (dataTicks ds (startRead s)).latch = false ∧ (dataTicks ds (startRead s)).clock = true ∧
    (dataTicks ds (startRead s)).buttons = (dataTicks ds (startRead s)).seq.shift.zeroExtend 16 := by
  have hat := readAt_afterTicks (ds := ds) hl hlen.le le_rfl
  rw [afterTicks_length, hlen] at hat
  have hidle := hat.idle_iff.mpr (by simp)
  cases hat with
  | done phase _ _ pins commit => exact ⟨phase, pins.1, pins.2, commit⟩
  | hold phase | sample phase | low phase => simp [phase] at hidle

theorem shift_commit {k : Nat} (hk : k < 12) : (dataTicks ds (startRead s)).seq.shift.getLsbD k
    = !(afterTicks ds (startRead s) (sampleAt s.build.settleCycles k - 1)).dsync2 := by
  obtain ⟨hidle, -⟩ := dataTicks_commits hl hlen
  have hall : samplesTaken (dataTicks ds (startRead s)).seq = 12 := by simp only [samplesTaken, hidle]
  rw [← afterTicks_length] at hall ⊢
  exact shift_afterTicks hl hlen.le le_rfl (hall ▸ hk)

theorem buttons_commit {k : Nat} (hk : k < 12) : (dataTicks ds (startRead s)).buttons.getLsbD k
    = !(afterTicks ds (startRead s) (sampleAt s.build.settleCycles k - 1)).dsync2 := by
  obtain ⟨-, -, -, hcommit⟩ := dataTicks_commits hl hlen
  rw [hcommit, zeroExtend_getLsbD, decide_eq_true hk, Bool.true_and, shift_commit hl hlen hk]

/-- The synchroniser fills before the first sample: each one sees the level of two ticks before (R71). -/
theorem dsync2_sample {k : Nat} (hk : k < 12) :
    ∃ n, ∃ h : n < ds.length, n + 3 = sampleAt s.build.settleCycles k ∧
      (afterTicks ds (startRead s) (sampleAt s.build.settleCycles k - 1)).dsync2
        = dataLevel (setData ds[n] (afterTicks ds (startRead s) n)) := by
  have hsync : 2 ≤ s.build.settleCycles := hl.1
  have hcommit := commitAt_succ s.build.settleCycles
  have hlast := sampleAt_gap s.build.settleCycles hk
  obtain ⟨n, hn⟩ : ∃ n, n + 3 = sampleAt s.build.settleCycles k :=
    ⟨sampleAt s.build.settleCycles k - 3, by unfold sampleAt; omega⟩
  refine ⟨n, by omega, hn, ?_⟩
  rw [← hn]
  exact afterTicks_dsync2 _ (by omega)

end Commit

/-- No tick attaches a reference controller. -/
theorem dataTicks_controller_none {t : State} (ht : t.controller = none) (ds : List Bool) :
    (dataTicks ds t).controller = none := by
  induction ds generalizing t with
  | nil => exact ht
  | cons d ds ih =>
    refine ih ?_
    rw [coreTick_controller (fun r hr => by simp [ht] at hr)]
    simp [ht]

/-- Settles O49: every sample goes to its own bit of SHIFT, which the last tick commits. -/
theorem aReadCommitsItsTwelveSamples : Obligations.AReadCommitsItsTwelveSamples := by
  intro s t ds hl hi h hlen
  rw [exec_start_of_idle hi] at h
  cases h
  obtain ⟨hidle, hlatch, hclock, hcommit⟩ := dataTicks_commits hl hlen
  refine ⟨fun n hn => ⟨?_, ?_⟩, hidle, hlatch, hclock, fun k hk => buttons_commit hl hlen hk, fun hc k hk => ?_, ?_⟩
  · exact busy_afterTicks hl hlen.le hn.le (hlen ▸ hn)
  · exact buttons_afterTicks hl hlen.le hn.le (hlen ▸ hn)
  · obtain ⟨n, hin, hn, hlevel⟩ := dsync2_sample hl hlen hk
    have hnone : (setData ds[n] (afterTicks ds (startRead s) n)).controller = none :=
      dataTicks_controller_none (by simp [hc]) _
    rw [buttons_commit hl hlen hk, hlevel, dataLevel_of_none hnone, setData_dataPin, ← hn, Nat.add_sub_cancel,
      List.getD_eq_getElem _ _ hin]
  · rw [hcommit]
    exact bitmap_high_zero _

/-! ### A read of a settled controller -/

/-- In a read the controller shows the first button that is not yet sampled, from its inputs as captured, and has
counted every tick of the present delay. -/
def Presents (wire : Buttons) (s : State) : Prop :=
  ∃ r, s.controller = some r ∧ r.wire = wire ∧ r.snap = wire ∧ r.pos = samplesTaken s.seq ∧
    (1 ≤ s.seq.cnt → s.build.settleCycles ≤ r.age + s.seq.cnt)

theorem presents_startRead {s : State} {r : Controller} (hr : s.controller = some r) :
    Presents r.wire (startRead s) := by
  refine ⟨Controller.observe s.latch s.clock true true r, ?_, rfl, rfl, rfl, fun _ => ?_⟩
  · rw [startRead_controller, hr, Option.map_some]
  · simp

theorem controllerOk_of_presents {n : Nat} {w : Buttons} {s : State} (h : ReadAt n s) (hw : Presents w s) :
    ControllerOk s := by
  obtain ⟨r₀, hr₀, hwire, hsnap, hpos, -⟩ := hw
  intro r hr
  obtain rfl : r₀ = r := Option.some.inj (hr₀.symm.trans hr)
  rw [hpos, hsnap, hwire]
  cases h with
  | hold phase => simp [samplesTaken, phase]
  | sample phase button _ _ pins => simp [samplesTaken, nButtons, phase, pins]; omega
  | low phase button _ _ pins => simp [samplesTaken, nButtons, phase, pins]; omega
  | done phase _ _ pins => simp [samplesTaken, nButtons, phase, pins]

/-- What a CORE_TICK makes of an attached controller. -/
theorem coreTick_controller_some {s : State} {r : Controller} (hs : ControllerOk s) (hr : s.controller = some r) :
    (coreTick s).controller = some
      (Controller.observe s.latch s.clock (coreTick s).latch (coreTick s).clock { r with age := r.age + 1 }) := by
  rw [coreTick_controller hs]
  simp [hr]

/-- The fall of CLOCK at a sample brings up the next button and restarts the count; no other tick of the read moves the
controller's output. -/
theorem presents_coreTick {n : Nat} {w : Buttons} {s : State} (h : ReadAt n s) (hp : s.seq.phase ≠ .idle)
    (hw : Presents w s) : Presents w (coreTick s) := by
  have hok := controllerOk_of_presents h hw
  obtain ⟨r, hr, hwire, hsnap, hpos, hage⟩ := hw
  refine ⟨_, coreTick_controller_some hok hr, hwire, by simp [Controller.observe, hwire, hsnap], ?_⟩
  simp only [Controller.observe, hpos, coreTick_build]
  cases h with
  | hold phase button left time pins =>
    by_cases hc : s.seq.cnt - 1 = 0
    · simp [coreTick_latchHold_ends phase hc, pins, samplesTaken, phase, button]
    · simp [coreTick_latchHold_counts phase hc, pins, samplesTaken, phase]
      omega
  | sample phase button left time pins =>
    simp [coreTick_sample phase, pins, samplesTaken, phase, nButtons]
    omega
  | low phase button left time pins =>
    by_cases hc : s.seq.cnt - 1 = 0
    · by_cases hk : s.seq.k = 11
      · simp [coreTick_clkLow_commits phase hc hk, pins, samplesTaken, phase, hk]
      · simp [coreTick_clkLow_rises phase hc hk, pins, samplesTaken, phase]
    · simp [coreTick_clkLow_counts phase hc, pins, samplesTaken, phase]
      omega
  | done phase => exact absurd phase hp

theorem presents_afterTicks {s : State} {r : Controller} {ds : List Bool} {n : Nat} (hl : s.build.Legal)
    (hr : s.controller = some r) (hlen : ds.length ≤ commitAt s.build.settleCycles) (hn : n ≤ ds.length) :
    Presents r.wire (afterTicks ds (startRead s) n) := by
  induction n with
  | zero => exact presents_startRead hr
  | succ n ih =>
    have hle := Nat.le_of_succ_le hn
    rw [afterTicks_succ _ hn]
    exact presents_coreTick ((readAt_afterTicks hl hlen hle).setData _)
      (busy_afterTicks hl hlen hle (by omega)) (ih hle)

/-- Three ticks before a button's sample the delay has two ticks left, and the buttons before are sampled. -/
theorem ReadAt.before_sample {n k : Nat} {s : State} (h : ReadAt n s) (hl : s.build.Legal)
    (hn : n + 3 = sampleAt s.build.settleCycles k) : samplesTaken s.seq = k ∧ s.seq.cnt = 2 := by
  have hsync : 2 ≤ s.build.settleCycles := hl.1
  have htime := h.time
  have hcnt := h.cnt_le
  rcases lt_trichotomy (samplesTaken s.seq) k with hlt | heq | hgt
  · have hgap := sampleAt_gap s.build.settleCycles hlt
    omega
  · rw [heq] at htime
    exact ⟨heq, by omega⟩
  · have hgap := sampleAt_gap s.build.settleCycles hgt
    omega

/-- A controller that answers within the delay shows the button's level when it is shifted in for its sample (R80). -/
theorem dataLevel_before_sample {n k : Nat} {w : Buttons} {s : State} (h : ReadAt n s) (hw : Presents w s)
    (hl : s.build.Legal) (hresp : s.build.tResp + 1 ≤ s.build.settleCycles)
    (hk : k < 12) (hn : n + 3 = sampleAt s.build.settleCycles k) : dataLevel s = w.getLsbD k := by
  obtain ⟨htaken, hcnt⟩ := h.before_sample hl hn
  obtain ⟨r, hr, -, hsnap, hpos, hage⟩ := hw
  rw [dataLevel_of_settled hr (by omega) (by omega), hsnap, hpos, htaken]

/-- Settles O51: each level shifted in for a sample is the controller's settled one, so SHIFT is the inverse of the
wires. -/
theorem settledControllerIsReadExactly : Obligations.SettledControllerIsReadExactly := by
  intro s t r ds hl hresp hi hr h hlen
  rw [exec_start_of_idle hi] at h
  cases h
  obtain ⟨hidle, -, -, hcommit⟩ := dataTicks_commits hl hlen
  have hshift : (dataTicks ds (startRead s)).seq.shift = ~~~ r.wire := by
    refine BitVec.eq_of_getLsbD_eq fun k hk => ?_
    obtain ⟨n, hin, hn, hlevel⟩ := dsync2_sample hl hlen hk
    have hat := (readAt_afterTicks hl hlen.le hin.le).setData ds[n]
    have hw : Presents r.wire (setData ds[n] (afterTicks ds (startRead s) n)) :=
      presents_afterTicks hl hr hlen.le hin.le
    rw [shift_commit hl hlen hk, hlevel,
      dataLevel_before_sample hat hw (by simpa using hl) (by simpa using hresp) hk (by simpa using hn),
      BitVec.getLsbD_not, decide_eq_true hk, Bool.true_and]
  exact ⟨hidle, by rw [hcommit, hshift]⟩

end Sys2Proof.Proofs

/-! ## Proofs of the watchdog and wake statements: the two handshakes, the register accesses, the WDT_TICK, and the
latencies of the crossings. -/

namespace Sys2Proof.Proofs

open Sys2Proof Sys2Proof.Machine Sys2Proof.Safety

/-! ### A handshake of six toggles -/

/-- A tick of the domain that acknowledges: the second to fourth toggles take the one before them, which adds no
change. -/
theorem changes_shift_front_le : ∀ a b c d e f : Bool, changes [a, a, b, c, e, f] ≤ changes [a, b, c, d, e, f] := by
  decide

/-- A tick of the domain that requests: the fifth and sixth toggles take the one before them, which adds no change. -/
theorem changes_shift_back_le : ∀ a b c d e f : Bool, changes [a, b, c, d, d, e] ≤ changes [a, b, c, d, e, f] := by
  decide

/-- With at most one in flight, a request that has its acknowledge back finds every stage at its own level. -/
theorem stages_at_rest : ∀ a b c d e : Bool, changes [a, b, c, d, e, a] ≤ 1 → b = a ∧ c = a ∧ d = a ∧ e = a := by
  decide

/-- A request that departs from rest is the one change of its handshake. -/
theorem changes_depart : ∀ a : Bool, changes [!a, a, a, a, a, a] = 1 := by
  decide

/-- Only the two ticks, a reset and a KICK touch a handshake, so a property of the handshakes is kept by every operation
that keeps it there. -/
theorem handshake_kept {P : State → Prop}
    (hcongr : ∀ s u, wakeChain u = wakeChain s → kickChain u = kickChain s → P s → P u)
    (hcore : ∀ s, P s → P (coreTick s)) (hwdt : ∀ s, P s → watchdogExpires s = false → P (wdtTick s))
    (hreset : ∀ s, P (fullReset s)) (hkick : ∀ s, P s → P (departKick s)) : KeptByEveryOperation P where
  coreTick := hcore
  wdtTick := hwdt
  fullReset s _ := hreset s
  departKick := hkick
  returnByte _ s := hcongr s _ rfl rfl
  startRead s hs _ := hcongr s _ rfl rfl hs
  writeStatus _ s := hcongr s _ rfl rfl
  writeWdtCtrl _ s := hcongr s _ rfl rfl
  gate s _ _ := hcongr s _ rfl rfl
  request s _ _ := hcongr s _ rfl rfl
  takeIrq s := by rw [takeIrq_eq]; exact hcongr s _ rfl rfl
  setData _ s := hcongr s _ rfl rfl
  raiseOther s := hcongr s _ rfl rfl
  setWires _ s := hcongr s _ rfl rfl

/-! ### One wake event in flight -/

/-- An arrived wake event is acknowledged, so after every tick the acknowledge is the request that was seen. -/
theorem wkAck_after_tick (s : State) : (if wakeArrives s = true then s.wkR2 else s.wkAck) = s.wkR2 := by
  cases h : s.wkR2 <;> cases h' : s.wkAck <;> simp [wakeArrives, h, h']

theorem wakeChain_coreTick (s : State) :
    wakeChain (coreTick s) = [s.wdt.req, s.wdt.req, s.wkR1, s.wkR2, s.wdt.a1, s.wdt.a2] := by
  simp [wakeChain, wkAck_after_tick]

theorem wakeChain_wdtTick {s : State} (hx : watchdogExpires s = false) : wakeChain (wdtTick s) =
    [if wakeDeparts s then !s.wdt.req else s.wdt.req, s.wkR1, s.wkR2, s.wkAck, s.wkAck, s.wdt.a1] := by
  rw [wdtTick_eq s hx, wakeChain]

theorem wakeChain_departKick (s : State) : wakeChain (departKick s) = wakeChain s := by
  simp [wakeChain]

/-- A wake event departs when a period has elapsed and the acknowledge of the one before is back (R91). -/
theorem wakeDeparts_iff (s : State) : wakeDeparts s = true ↔
    (s.wdt.wcnt + 1) % s.build.wakePeriod = 0 ∧ s.wdt.req = s.wdt.a2 := by
  simp [wakeDeparts, nextWcnt]

theorem wakeOk_coreTick {s : State} (hs : WakeOk s) : WakeOk (coreTick s) := by
  rw [WakeOk, wakeChain_coreTick]
  exact (changes_shift_front_le ..).trans hs

/-- A wake event departs from a handshake at rest only (R91). -/
theorem wakeOk_wdtTick {s : State} (hx : watchdogExpires s = false) (hs : WakeOk s) : WakeOk (wdtTick s) := by
  rw [WakeOk, wakeChain_wdtTick hx]
  by_cases hd : wakeDeparts s = true
  · obtain ⟨-, hback⟩ := (wakeDeparts_iff s).mp hd
    rw [WakeOk, wakeChain, ← hback] at hs
    obtain ⟨hr1, hr2, hack, ha1⟩ := stages_at_rest _ _ _ _ _ hs
    rw [if_pos hd, hr1, hr2, hack, ha1, changes_depart]
  · rw [if_neg hd]
    exact (changes_shift_back_le ..).trans hs

theorem wakeOk_fullReset (s : State) : WakeOk (fullReset s) := by
  obtain ⟨-, -, -, hwake, -⟩ := powerOnMeetsTheInvariants
  exact hwake

theorem wakeOk_kept : KeptByEveryOperation WakeOk :=
  handshake_kept (fun _ _ hwake _ hs => by rwa [WakeOk, hwake]) (fun _ => wakeOk_coreTick)
    (fun _ hs hx => wakeOk_wdtTick hx hs) wakeOk_fullReset
    (fun s hs => by rwa [WakeOk, wakeChain_departKick])

/-- Settles O35: each tick moves a part of the handshake on, and an event departs only from rest. -/
theorem everyStepKeepsOneWakeInFlight : Obligations.EveryStepKeepsOneWakeInFlight := by
  intro s t hs h
  obtain ⟨ts, d, h⟩ := step_takesTurn h
  exact takeTurn_keeps wakeOk_kept (s := { s with turns := ts, draws := d }) hs h

/-! ### One kick in flight -/

theorem kickChain_coreTick (s : State) :
    kickChain (coreTick s) = [s.kkReq, s.wdt.k1, s.wdt.k2, s.wdt.kack, s.wdt.kack, s.kkA1] := by
  simp [kickChain]

theorem kickChain_wdtTick {s : State} (hx : watchdogExpires s = false) :
    kickChain (wdtTick s) = [s.kkReq, s.kkReq, s.wdt.k1, s.wdt.k2, s.kkA1, s.kkA2] := by
  rw [wdtTick_eq s hx, kickChain, kack_after_tick]

theorem kickOk_coreTick {s : State} (hs : KickOk s) : KickOk (coreTick s) := by
  rw [KickOk, kickChain_coreTick]
  exact (changes_shift_back_le ..).trans hs

theorem kickOk_wdtTick {s : State} (hx : watchdogExpires s = false) (hs : KickOk s) : KickOk (wdtTick s) := by
  rw [KickOk, kickChain_wdtTick hx]
  exact (changes_shift_front_le ..).trans hs

theorem departKick_of_rest {s : State} (h : s.kkReq = s.kkA2) : departKick s = { s with kkReq := !s.kkReq } := by
  rw [departKick, if_neg (by simp [kbusy, h])]

theorem departKick_of_busy {s : State} (h : s.kkReq ≠ s.kkA2) : departKick s = s := by
  rw [departKick, if_pos (by simpa [kbusy] using h)]

/-- A kick departs from a handshake at rest only, and is merged otherwise (R83). -/
theorem kickOk_departKick {s : State} (hs : KickOk s) : KickOk (departKick s) := by
  by_cases hback : s.kkReq = s.kkA2
  · rw [KickOk, kickChain, ← hback] at hs
    obtain ⟨hk1, hk2, hkack, ha1⟩ := stages_at_rest _ _ _ _ _ hs
    rw [departKick_of_rest hback, KickOk, kickChain, hk1, hk2, hkack, ha1, ← hback, changes_depart]
  · rwa [departKick_of_busy hback]

theorem kickOk_fullReset (s : State) : KickOk (fullReset s) := by
  obtain ⟨-, -, -, -, hkick, -⟩ := powerOnMeetsTheInvariants
  exact hkick

theorem kickOk_kept : KeptByEveryOperation KickOk :=
  handshake_kept (fun _ _ _ hkick hs => by rwa [KickOk, hkick]) (fun _ => kickOk_coreTick)
    (fun _ hs hx => kickOk_wdtTick hx hs) kickOk_fullReset (fun _ => kickOk_departKick)

/-- Settles O36: each tick moves a part of the handshake on, and a kick departs only from rest. -/
theorem everyStepKeepsOneKickInFlight : Obligations.EveryStepKeepsOneKickInFlight := by
  intro s t hs h
  obtain ⟨ts, d, h⟩ := step_takesTurn h
  exact takeTurn_keeps kickOk_kept (s := { s with turns := ts, draws := d }) hs h

/-! ### The registers of the watchdog -/

/-- STATUS shows one flag a bit (R20, R93). -/
theorem statusByte_bits (s : State) :
    (statusByte s).getLsbD 0 = busy s ∧ (statusByte s).getLsbD 1 = profileBit s ∧
    (statusByte s).getLsbD 2 = s.wakef ∧ (statusByte s).getLsbD 3 = kbusy s ∧
    (statusByte s).extractLsb' 4 4 = 0b0000#4 := by
  unfold statusByte
  cases busy s <;> cases profileBit s <;> cases s.wakef <;> cases kbusy s <;> decide

/-- WDT_CTRL shows the two enables (R23, R85). -/
theorem wdtCtrlByte_bits (s : State) :
    (wdtCtrlByte s).getLsbD 0 = s.wde ∧ (wdtCtrlByte s).getLsbD 1 = s.wie ∧
    (wdtCtrlByte s).extractLsb' 2 6 = 0b000000#6 := by
  unfold wdtCtrlByte
  cases s.wde <;> cases s.wie <;> decide

/-- Settles O12: the byte is STATUS as it stands, bit by bit. -/
theorem statusReadShowsItsFlags : Obligations.StatusReadShowsItsFlags := by
  intro s
  obtain ⟨hbusy, hprofile, hwakef, hkbusy, hzero⟩ := statusByte_bits s
  refine ⟨statusByte s, rfl, ?_, ?_, hwakef, ?_, hzero⟩
  · simp only [hbusy, busy, bne_iff_ne]
  · simp only [hprofile, profileBit, beq_iff_eq]
  · simp only [hkbusy, kbusy, bne_iff_ne]

/-- Settles O13: the byte is WDT_CTRL as it stands, bit by bit. -/
theorem wdtCtrlReadShowsItsEnables : Obligations.WdtCtrlReadShowsItsEnables :=
  fun s => ⟨wdtCtrlByte s, rfl, wdtCtrlByte_bits s⟩

/-- Settles O19: the two cases of KBUSY before the KICK; a departed kick makes KBUSY 1. -/
theorem kickDepartsOrMerges : Obligations.KickDepartsOrMerges := by
  intro s
  refine ⟨departKick s, rfl, fun hrest => ⟨departKick_of_rest hrest, ?_⟩, departKick_of_busy,
    fun off hoff => regRead_departKick s hoff⟩
  have hk : kbusy (departKick s) = true := by simp [kbusy, hrest]
  obtain ⟨-, -, -, hbit, -⟩ := statusByte_bits (departKick s)
  exact hbit.trans hk

/-- Settles O20: WDE is the old value or bit 0, WIE is bit 1, and no other bit is read. -/
theorem wdtCtrlWriteSetsItsEnables : Obligations.WdtCtrlWriteSetsItsEnables := by
  intro s d
  refine ⟨writeWdtCtrl d s, rfl, ?_, fun d' h0 h1 => ?_, fun off hoff => regRead_writeWdtCtrl d s hoff⟩
  · rw [writeWdtCtrl]
    cases d.getLsbD 0 <;> simp
  · show Host.Outcome.next (writeWdtCtrl d' s) = _
    rw [writeWdtCtrl, h0, h1, writeWdtCtrl]

/-- Settles O21: WAKEF is kept exactly where bit 2 is 0. -/
theorem statusWriteClearsWake : Obligations.StatusWriteClearsWake := by
  intro s d
  refine ⟨writeStatus d s, rfl, fun h => ?_, fun h => ?_, fun off hoff => regRead_writeStatus d s hoff⟩
  all_goals simp only [writeStatus, h, Bool.not_true, Bool.not_false, Bool.and_false, Bool.and_true]

/-! ### Wake delivery -/

theorem wakeArrives_iff (s : State) : wakeArrives s = true ↔ s.wkR2 ≠ s.wkAck := bne_iff_ne

/-- Settles O26: an arrived event is delivered or dropped as WIE says, and without one the three stay. -/
theorem coreTickDeliversAWake : Obligations.CoreTickDeliversAWake := by
  intro s
  refine ⟨fun hne => ?_, fun he => ?_⟩
  · have ha : wakeArrives s = true := (wakeArrives_iff s).mpr hne
    simp +contextual [ha]
  · have ha : ¬ wakeArrives s = true := fun ha => (wakeArrives_iff s).mp ha he
    simp [ha]

/-- Settles O54: the request moves through the two stages, is seen at the third tick, and is acknowledged there. -/
theorem wakeArrivesAtTheThirdTick : Obligations.WakeArrivesAtTheThirdTick := by
  intro s hreq hr2 hack
  have h0 : wakeArrives s = false := by simp [wakeArrives, hr2, hack]
  have h1 : wakeArrives (coreTick s) = false := by simp [wakeArrives, hr2, hack]
  have h2 : wakeArrives (coreTick (coreTick s)) = true := by
    simpa [wakeArrives_iff, h0, h1, hack] using hreq.symm
  have hasync : wakeAsync (coreTick (coreTick s)) = s.wie := by simp [wakeAsync, h0, h1, hack, hreq.symm]
  have hdone : wakeAsync (coreTick (coreTick (coreTick s))) = false := by simp [wakeAsync, h2]
  refine ⟨h0, h1, h2, ?_⟩
  simp [coreTicks, h0, h1, h2, hasync, hdone, Bool.or_comm]

/-! ### The watchdog tick -/

theorem watchdogExpires_iff (s : State) : watchdogExpires s = true ↔
    s.wdt.e2 = true ∧ s.wdt.k2 = s.wdt.kack ∧ s.build.resetWindow ≤ s.wdt.rcnt + 1 := by
  simp [watchdogExpires, kickArrives, and_assoc]

/-- Settles O31: the tick's parts side by side, each read off from its own rule. -/
theorem wdtTickMovesItsDomain : Obligations.WdtTickMovesItsDomain := by
  intro s hno
  have hx : watchdogExpires s = false := Bool.eq_false_iff.mpr ((watchdogExpires_iff s).not.mpr hno)
  rw [wdtTick_eq s hx]
  refine ⟨rfl, rfl, rfl, rfl, rfl, rfl, rfl, kack_after_tick s, fun h => ?_, fun ⟨he, hk⟩ => ?_, rfl, ?_⟩
  · rcases h with he | hk
    · simp [nextRcnt, he]
    · simp [nextRcnt, kickArrives, hk]
  · simp [nextRcnt, kickArrives, he, hk]
  · rw [← wakeDeparts_iff]
    cases wakeDeparts s <;> simp

/-- Settles O32: the expiring tick takes the reset's branch, and the reset gives each element its value. -/
theorem watchdogResetIsAFullReset : Obligations.WatchdogResetIsAFullReset := by
  intro s he hk hw
  have hx : watchdogExpires s = true := (watchdogExpires_iff s).mpr ⟨he, hk, hw⟩
  have hctrl : regRead 0x4#4 (fullReset s) = 0x00#8 := by simp [regRead, wdtCtrlByte]
  refine ⟨fullReset s, takeTurn_resets (.inr ⟨rfl, hx⟩), rfl, ?_⟩
  simp [irqWake, wakeAsync, kbusy, hctrl]

/-! ### The window, and the kick within it -/

/-- `n` WDT_TICKs after WDE was set, with no kick in flight: the enable has moved `n` stages on, and RCNT counts from
the third tick (R97). -/
structure EnabledFor (n : Nat) (s : State) : Prop where
  wde : s.wde = true
  e1 : s.wdt.e1 = decide (1 ≤ n)
  e2 : s.wdt.e2 = decide (2 ≤ n)
  k1 : s.wdt.k1 = s.kkReq
  k2 : s.wdt.k2 = s.kkReq
  kack : s.wdt.kack = s.kkReq
  rcnt : s.wdt.rcnt = n - 2

theorem EnabledFor.expires_iff {n : Nat} {s : State} (h : EnabledFor n s) :
    watchdogExpires s = true ↔ 2 ≤ n ∧ s.build.resetWindow ≤ n - 2 + 1 := by
  simp [watchdogExpires_iff, h.e2, h.k2, h.kack, h.rcnt]

theorem EnabledFor.wdtTick {n : Nat} {s : State} (h : EnabledFor n s) (hx : watchdogExpires s = false) :
    EnabledFor (n + 1) (wdtTick s) := by
  have hkick : kickArrives s = false := by simp [kickArrives, h.k2, h.kack]
  have hrcnt : nextRcnt s = n + 1 - 2 := by
    simp only [nextRcnt, h.e2, hkick, h.rcnt]
    by_cases hn : 2 ≤ n <;> simp [hn] <;> omega
  rw [wdtTick_eq s hx]
  exact { wde := h.wde, e1 := by simp [h.wde], e2 := by simp [h.e1], k1 := rfl, k2 := h.k1,
          kack := by simp [hkick, h.kack], rcnt := hrcnt }

/-- Until the window is over, each of the ticks raises no reset. -/
theorem enabledFor_wdtTicks {s : State} (h : EnabledFor 0 s) {n : Nat} (hn : n ≤ s.build.resetWindow + 1) :
    EnabledFor n (wdtTicks n s) ∧ (wdtTicks n s).build = s.build := by
  induction n with
  | zero => exact ⟨h, rfl⟩
  | succ n ih =>
    obtain ⟨hat, hb⟩ := ih (by omega)
    have hx : watchdogExpires (wdtTicks n s) = false := by
      rw [Bool.eq_false_iff, Ne, hat.expires_iff, hb]
      omega
    rw [wdtTicks_succ]
    exact ⟨hat.wdtTick hx, by rw [wdtTick_eq _ hx]; exact hb⟩

/-- Settles O52: RCNT stands at `n - 2` after `n` ticks, so the tick after `RESET_WINDOW + 1` of them is the first to
reach the window. -/
theorem watchdogFiresAtWindowPlusTwo : Obligations.WatchdogFiresAtWindowPlusTwo := by
  intro s n ⟨_, hperiod, hwindow, _⟩ hwde he1 he2 hrcnt hk1 hk2 hkack hn
  have hstart : EnabledFor 0 s :=
    { wde := hwde, e1 := he1, e2 := he2, k1 := hk1.symm, k2 := (hk1.trans hk2).symm,
      kack := (hk1.trans (hk2.trans hkack)).symm, rcnt := hrcnt }
  obtain ⟨hat, hb⟩ := enabledFor_wdtTicks hstart hn
  refine ⟨?_, hat.rcnt⟩
  rw [hat.expires_iff, hb]
  omega

theorem watchdogExpires_of_kickArrives {s : State} (h : kickArrives s = true) : watchdogExpires s = false := by
  simp [watchdogExpires, h]

theorem watchdogExpires_of_lt {s : State} (h : s.wdt.rcnt + 1 < s.build.resetWindow) :
    watchdogExpires s = false := by
  simp [watchdogExpires, h]

theorem nextRcnt_le (s : State) : nextRcnt s ≤ s.wdt.rcnt + 1 := by
  unfold nextRcnt
  split <;> omega

/-- `n` WDT_TICKs after a kick departed from rest in `t`: its request has moved `n` stages on, the core side still
waits for the acknowledge, and RCNT has counted each tick at most once (R101). -/
structure KickedFor (n : Nat) (t s : State) : Prop where
  build : s.build = t.build
  kkReq : s.kkReq = t.kkReq
  kkA1 : s.kkA1 = t.kkA1
  kkA2 : s.kkA2 = !t.kkReq
  k1 : s.wdt.k1 = if 1 ≤ n then t.kkReq else !t.kkReq
  k2 : s.wdt.k2 = if 2 ≤ n then t.kkReq else !t.kkReq
  kack : s.wdt.kack = if 3 ≤ n then t.kkReq else !t.kkReq
  rcnt_le : s.wdt.rcnt ≤ t.wdt.rcnt + n

theorem kickedFor_departKick {s : State} (hrest : s.kkReq = s.kkA2) (hk1 : s.wdt.k1 = s.kkReq)
    (hk2 : s.wdt.k2 = s.kkReq) (hkack : s.wdt.kack = s.kkReq) : KickedFor 0 (departKick s) (departKick s) := by
  rw [departKick_of_rest hrest]
  exact { build := rfl, kkReq := rfl, kkA1 := rfl, kkA2 := by simp [hrest], k1 := by simp [hk1],
          k2 := by simp [hk2], kack := by simp [hkack], rcnt_le := le_rfl }

theorem KickedFor.kickArrives_iff {n : Nat} {t s : State} (h : KickedFor n t s) : kickArrives s = true ↔ n = 2 := by
  rw [kickArrives, h.k2, h.kack, bne_iff_ne]
  by_cases h2 : 2 ≤ n <;> by_cases h3 : 3 ≤ n <;> simp [h2, h3] <;> omega

theorem KickedFor.wdtTick {n : Nat} {t s : State} (h : KickedFor n t s) (hx : watchdogExpires s = false) :
    KickedFor (n + 1) t (wdtTick s) := by
  have hcount : nextRcnt s ≤ t.wdt.rcnt + (n + 1) := (nextRcnt_le s).trans (Nat.succ_le_succ h.rcnt_le)
  rw [wdtTick_eq s hx, kack_after_tick]
  exact { h with k1 := by simp [h.kkReq], k2 := by simp [h.k1], kack := by simp [h.k2], rcnt_le := hcount }

/-- The window is not over before the third tick, and at the third the kick arrives. -/
theorem kickedFor_wdtTicks {t : State} (h : KickedFor 0 t t) (hwindow : t.wdt.rcnt + 2 < t.build.resetWindow)
    {n : Nat} (hn : n ≤ 3) : KickedFor n t (wdtTicks n t) := by
  induction n with
  | zero => exact h
  | succ n ih =>
    have hat := ih (by omega)
    rw [wdtTicks_succ]
    by_cases h2 : n = 2
    · exact hat.wdtTick (watchdogExpires_of_kickArrives (hat.kickArrives_iff.mpr h2))
    · have hcount := hat.rcnt_le
      exact hat.wdtTick (watchdogExpires_of_lt (by rw [hat.build]; omega))

/-- A kick's arrival clears RCNT (R90). -/
theorem rcnt_wdtTick_of_kickArrives {s : State} (h : kickArrives s = true) : (wdtTick s).wdt.rcnt = 0 := by
  rw [wdtTick_eq s (watchdogExpires_of_kickArrives h)]
  simp [nextRcnt, h]

/-- Settles O53: the request is three stages on at the third tick, and its acknowledge takes two CORE_TICKs back. -/
theorem kickArrivesAtTheThirdTick : Obligations.KickArrivesAtTheThirdTick := by
  intro s t hrest hk1 hk2 hkack hwindow h
  cases h
  have hdeparted := kickedFor_departKick hrest hk1 hk2 hkack
  have hat {n : Nat} (hn : n ≤ 3) : KickedFor n (departKick s) (wdtTicks n (departKick s)) :=
    kickedFor_wdtTicks hdeparted (by simpa using hwindow) hn
  have h2 : kickArrives (wdtTicks 2 (departKick s)) = true := (hat (by decide)).kickArrives_iff.mpr rfl
  have hend := hat le_rfl
  refine ⟨?_, ?_, h2, ?_, hend.kack, ?_, fun ha1 => ?_, ?_⟩
  · exact Bool.eq_false_iff.mpr (hdeparted.kickArrives_iff.not.mpr (by decide))
  · exact Bool.eq_false_iff.mpr ((hat (by decide)).kickArrives_iff.not.mpr (by decide))
  · rw [wdtTicks_succ]
    exact rcnt_wdtTick_of_kickArrives h2
  · simp only [kbusy, hend.kkReq, hend.kkA2, Bool.bne_not_self]
  · have hwait : (departKick s).kkA1 = !(departKick s).kkReq := by rw [← hdeparted.kkA2]; simpa using ha1
    simp only [kbusy, coreTicks, coreTick_kkReq, coreTick_kkA2, hend.kkReq, hend.kkA1, hwait, Bool.bne_not_self]
  · simp only [kbusy, coreTicks, coreTick_kkReq, coreTick_kkA2, coreTick_kkA1, hend.kkReq, hend.kack, Nat.le_refl,
      if_true, bne_self_eq_false]

end Sys2Proof.Proofs

/-! ## Proofs of the register bus's statements: the reads that return 0x00, and the writes that are ignored. -/

namespace Sys2Proof.Proofs

open Sys2Proof Sys2Proof.Machine

/-- Returning the empty byte writes 0x00 to the host's read result and nothing else. -/
theorem returnByte_emptyByte (s : State) : returnByte emptyByte s = { s with rdata := 0x00#8 } := rfl

/-- Settles O15: each of the four reads returns the empty byte, whatever its offset operand. -/
theorem emptyReadsReturnZero : Obligations.EmptyReadsReturnZero := by
  intro s o o'
  simp only [List.forall_mem_cons]
  refine ⟨?rdCmd, ?rdRsvd5, ?rdRsvd6to7, ?rdRsvd8toF, List.forall_mem_nil _⟩
  all_goals exact congrArg Host.Outcome.next (returnByte_emptyByte s)

/-- An ignored write leaves the whole state as it was, whatever the data. -/
theorem ignoreWrite_eq (d : Byte) (s : State) : ignoreWrite d s = s := rfl

/-- Settles O16: each of the six is an ignored write, whatever its offset operand and its data. -/
theorem ignoredWritesChangeNothing : Obligations.IgnoredWritesChangeNothing := by
  intro s o o' d
  simp only [List.forall_mem_cons]
  refine ⟨?wrCmdRsvd, ?wrBtnLo, ?wrBtnHi, ?wrRsvd5, ?wrRsvd6to7, ?wrRsvd8toF, List.forall_mem_nil _⟩
  all_goals exact fun _ => congrArg Host.Outcome.next (ignoreWrite_eq d s)

end Sys2Proof.Proofs

/-! ## Proofs of the core interface's statements: when HOST and IRQ turns are enabled and what they do then, the
primitives, and the stuck sleep. -/

namespace Sys2Proof.Proofs

open Sys2Proof Sys2Proof.Machine Sys2Proof.Safety

/-! ### When HOST and IRQ are enabled (R114, R115) -/

theorem irqEnabled_iff (s : State) :
    irqEnabled s = true ↔ s.gie = true ∧ (s.wakef = true ∨ s.otherPend = true) := by
  simp only [irqEnabled, irqPending, Bool.and_eq_true, Bool.or_eq_true]

theorem hostEnabled_iff (s : State) :
    hostEnabled s = true ↔ ¬ s.sleeping = true ∧ ¬ (s.gie = true ∧ (s.wakef = true ∨ s.otherPend = true)) := by
  simp only [← irqEnabled_iff, hostEnabled, Bool.and_eq_true, Bool.not_eq_true', Bool.not_eq_true]

/-- Which source an interrupt takes does not depend on the schedule. -/
@[simp] theorem irqSource_popTurn (s : State) : irqSource (popTurn s) = irqSource s := by
  simp only [irqSource, popTurn_wakef, popTurn_otherPend, popTurn_build]

/-- Whether an interrupt may be taken does not depend on the schedule. -/
@[simp] theorem irqEnabled_popTurn (s : State) : irqEnabled (popTurn s) = irqEnabled s := by
  simp only [irqEnabled, irqPending, popTurn_gie, popTurn_wakef, popTurn_otherPend]

/-! ### The HOST turn -/

/-- A HOST turn with no request queued performs a free operation. -/
theorem hostTurn_free {s : State} (he : hostEnabled s = true) (hp : s.prog = []) : hostTurn s = runFree s := by
  rw [hostTurn, if_pos he, hp]

/-- What a register reads depends on neither the schedule nor the queue. -/
theorem regRead_popTurn_prog (off : Offset) (s : State) (p : List Request) :
    regRead off { popTurn s with prog := p } = regRead off s := by
  apply regRead_eq <;> simp

/-- Settles O8: a HOST turn waits where R114 does not enable it; enabled, it performs what stands first in the queue, or
a free operation where nothing does. -/
theorem hostRunsOnlyWhenEnabled : Obligations.HostRunsOnlyWhenEnabled := by
  intro s ht
  have hstep : step s = hostTurn (popTurn s) := step_of_turn ht
  rw [← hostEnabled_iff, ← hostEnabled_popTurn, hstep, ← popTurn_prog s]
  refine ⟨fun hoff => hostTurn_waits (Bool.eq_false_of_not_eq_true hoff), fun he =>
    ⟨fun w rest i hp hd => hostTurn_word he hp hd, fun a rest hp => hostTurn_request he hp,
      fun off bit rest hp => ?poll, fun hp => hostTurn_free he hp⟩⟩
  case poll =>
    rw [hostTurn_request he hp, hp, exec_decodeRead, regRead_popTurn_prog]
    refine (runReadWhile_eq off bit _).trans ?_
    rw [regRead_popTurn_prog]

/-! ### The IRQ turn -/

theorem irqTurn_passes {s : State} (h : irqEnabled s = false) : irqTurn s = s := by
  rw [irqTurn, if_neg (by simp [h])]

theorem irqTurn_wake {s : State} (he : irqEnabled s = true) (hsrc : irqSource s = .wake) :
    irqTurn s = { s with wakef := false, sleeping := false, vectoredTo := s.build.wakeVector } := by
  obtain ⟨hgie, -⟩ := (irqEnabled_iff s).mp he
  simp only [irqTurn, he, takeIrq_eq, hsrc, hgie, if_true]

theorem irqTurn_other {s : State} (he : irqEnabled s = true) (hsrc : irqSource s = .other) :
    irqTurn s = { s with otherPend := false, sleeping := false, vectoredTo := s.build.otherVector } := by
  obtain ⟨hgie, -⟩ := (irqEnabled_iff s).mp he
  simp only [irqTurn, he, takeIrq_eq, hsrc, hgie, if_true, reduceCtorEq, if_false]

/-- Settles O10: an IRQ turn passes unless it is enabled; then it takes the one pending source, or of two the one that
IRQ_PRIORITY names. -/
theorem irqTakesOnePendingSource : Obligations.IrqTakesOnePendingSource := by
  intro s ht
  have hstep : step s = .next (irqTurn (popTurn s)) := step_of_turn ht
  have hwake (he : irqEnabled s = true) (hsrc : irqSource s = .wake) :
      step s = .next { popTurn s with wakef := false, sleeping := false, vectoredTo := s.build.wakeVector } := by
    rw [hstep, ← popTurn_build s, irqTurn_wake (by simpa using he) (by simpa using hsrc)]
  have hother (he : irqEnabled s = true) (hsrc : irqSource s = .other) :
      step s = .next { popTurn s with otherPend := false, sleeping := false, vectoredTo := s.build.otherVector } := by
    rw [hstep, ← popTurn_build s, irqTurn_other (by simpa using he) (by simpa using hsrc)]
  refine ⟨fun hoff => ?_, fun hg hw ho => ?_, fun hg hw ho => ?_, fun hg hw ho hp => ?_, fun hg hw ho hp => ?_⟩
  · rw [← irqEnabled_iff, ← irqEnabled_popTurn, Bool.not_eq_true] at hoff
    rw [hstep, irqTurn_passes hoff]
  · exact hwake ((irqEnabled_iff s).mpr ⟨hg, .inl hw⟩) (by simp [irqSource, hw, ho])
  · exact hother ((irqEnabled_iff s).mpr ⟨hg, .inr ho⟩) (by simp [irqSource, hw])
  · exact hwake ((irqEnabled_iff s).mpr ⟨hg, .inl hw⟩) (by simp [irqSource, hw, ho, hp])
  · exact hother ((irqEnabled_iff s).mpr ⟨hg, .inl hw⟩) (by simp [irqSource, hw, ho, hp])

/-! ### The primitives -/

/-- Settles O22: each primitive's meaning is the record update that its rule gives. -/
theorem primitivesWriteGieAndSleeping : Obligations.PrimitivesWriteGieAndSleeping :=
  fun _ => ⟨rfl, rfl, rfl, rfl⟩

/-! ### The stuck sleep (R112, R149) -/

/-- A core that sleeps runs no host operation. -/
theorem hostEnabled_of_sleeping {s : State} (h : s.sleeping = true) : hostEnabled s = false := by
  simp only [hostEnabled, h, Bool.not_true, Bool.false_and]

/-- With GIE = 0 no interrupt is taken. -/
theorem irqEnabled_of_gie_off {s : State} (h : s.gie = false) : irqEnabled s = false := by
  simp only [irqEnabled, h, Bool.false_and]

/-- A stuck core's HOST and IRQ turns pass, and no tick and no turn of the environment reaches GIE, SLEEPING, the queue
or the byte read last. -/
theorem takeTurn_stuck {t : Turn} {s u : State} (h : takeTurn t s = .next u) (hs : Stuck s) (hr : ¬ Resets t s) :
    Stuck u ∧ u.prog = s.prog ∧ u.rdata = s.rdata := by
  have ⟨hsleeping, hgie⟩ := hs
  cases t with
  | host =>
    cases (hostTurn_waits (hostEnabled_of_sleeping hsleeping)).symm.trans h
    exact ⟨hs, rfl, rfl⟩
  | irq =>
    cases h
    rw [irqTurn_passes (irqEnabled_of_gie_off hgie)]
    exact ⟨hs, rfl, rfl⟩
  | coreTick =>
    cases h
    rw [Stuck, coreTick_sleeping, coreTick_gie]
    exact ⟨hs, coreTick_prog s, coreTick_rdata s⟩
  | wdtTick =>
    cases h
    rw [wdtTick_eq s (by simpa [Resets] using hr)]
    exact ⟨hs, rfl, rfl⟩
  | data | other | controller => cases h; exact ⟨hs, rfl, rfl⟩
  | reset => exact absurd (.inl rfl) hr

/-- Settles O46: a step is the next turn, and no turn but a reset moves a stuck core. -/
theorem stuckSleepEndsOnlyByReset : Obligations.StuckSleepEndsOnlyByReset := by
  intro s t hs h hr
  obtain ⟨ts, d, h⟩ := step_takesTurn h
  exact (takeTurn_stuck h hs hr :)

end Sys2Proof.Proofs

/-! ## Proofs of the exceptions' statements: what stops a step, the order of two interrupts, and what moves a sleeping
core. -/

namespace Sys2Proof.Proofs

open Sys2Proof Sys2Proof.Machine Sys2Proof.Safety

/-! ### No step stops (R121, R122) -/

theorem runWord_answers {w : Word} (hd : ∃ i, decode w = .ok i) (s : State) : ∃ t, runWord w s = .next t := by
  obtain ⟨i, hi⟩ := hd
  rw [runWord_of_decode hi]
  exact exec_answers i s

/-- The word of an access of one byte is a read or a write of its offset, so it always decodes (R57). -/
theorem decode_accessWord (b : Build) (a : BusAccess) : ∃ i, decode (accessWord b a) = .ok i := by
  unfold accessWord
  split
  · exact ⟨_, decode_encodeRead _⟩
  · exact ⟨_, decode_encodeWrite _ _⟩

theorem runAccess_answers {a : BusAccess} {s : State} (h : a.bytes = 1 ∨ touches s.build a = false) :
    ∃ t, runAccess a s = .next t := by
  by_cases ht : touches s.build a = true
  · have hb : a.bytes = 1 := h.resolve_right (by simp [ht])
    rw [runAccess_byte ht hb]
    exact runWord_answers (decode_accessWord _ _) s
  · exact ⟨s, runAccess_outside ht⟩

theorem runFree_answers (s : State) : ∃ t, runFree s = .next t := by
  unfold runFree
  split
  · exact exec_answers _ _
  · exact ⟨_, rfl⟩

/-- A HOST turn answers if the oldest request is neither an invalid word nor an access of the window of another width;
a poll loop and a free operation always answer. -/
theorem hostTurn_answers {s : State} (hword : ∀ w rest, s.prog = .word w :: rest → ∃ i, decode w = .ok i)
    (haccess : ∀ a rest, s.prog = .access a :: rest → a.bytes = 1 ∨ touches s.build a = false) :
    ∃ t, hostTurn s = .next t := by
  by_cases he : hostEnabled s = true
  · cases hp : s.prog with
    | nil => rw [hostTurn_free he hp]; exact runFree_answers s
    | cons r rest =>
      rw [hostTurn_request he hp]
      cases r with
      | word w => exact runWord_answers (hword w rest hp) _
      | access a => exact runAccess_answers (haccess a rest hp)
      | readWhile off bit => exact ⟨_, runReadWhile_eq off bit _⟩
  · exact ⟨s, hostTurn_waits (Bool.eq_false_of_not_eq_true he)⟩

/-- Settles O7: only a HOST turn can be refused, and the premises take away both of its refusals. -/
theorem onlyInvalidRequestsStop : Obligations.OnlyInvalidRequestsStop := by
  intro s hword haccess
  rw [← popTurn_prog s] at hword haccess
  rw [← popTurn_build s] at haccess
  unfold step
  cases nextTurn s with
  | host => exact hostTurn_answers hword haccess
  | coreTick | wdtTick | irq | data | other | controller | reset => exact ⟨_, rfl⟩

/-! ### Two interrupts (R125) -/

/-- Settles O11: the first turn takes the source that IRQ_PRIORITY names, and the second the one left. -/
theorem eitherIrqOrderEndsAlike : Obligations.EitherIrqOrderEndsAlike := by
  intro s hg hw ho
  have he : irqEnabled s = true := (irqEnabled_iff s).mpr ⟨hg, .inl hw⟩
  have hsrc : irqSource s = s.build.irqPriority := by simp [irqSource, hw, ho]
  cases hp : s.build.irqPriority with
  | wake =>
    rw [irqTurn_wake he (hsrc.trans hp)]
    exact irqTurn_other ((irqEnabled_iff _).mpr ⟨hg, .inr ho⟩) (by simp [irqSource])
  | other =>
    rw [irqTurn_other he (hsrc.trans hp)]
    exact irqTurn_wake ((irqEnabled_iff _).mpr ⟨hg, .inl hw⟩) (by simp [irqSource, hw])

/-! ### A sleeping core (R136) -/

/-- Everything a turn can do while the core sleeps: a reset, a tick, an interrupt, or a move of the environment. -/
theorem takeTurn_asleep {t : Turn} {s u : State} (h : takeTurn t s = .next u) (hs : s.sleeping = true) :
    Resets t s ∨ (t = .coreTick ∧ u = coreTick s) ∨ (t = .wdtTick ∧ watchdogExpires s = false ∧ u = wdtTick s) ∨
    (t = .irq ∧ u = irqTurn s) ∨ ∃ o d c, u = { s with otherPend := o, dataPin := d, controller := c } := by
  by_cases hr : Resets t s
  · exact .inl hr
  refine .inr ?_
  cases t with
  | reset => exact absurd (.inl rfl) hr
  | host =>
    cases (hostTurn_waits (hostEnabled_of_sleeping hs)).symm.trans h
    exact .inr (.inr (.inr ⟨_, _, _, rfl⟩))
  | coreTick => cases h; exact .inl ⟨rfl, rfl⟩
  | wdtTick => cases h; exact .inr (.inl ⟨rfl, by simpa [Resets] using hr, rfl⟩)
  | irq => cases h; exact .inr (.inr (.inl ⟨rfl, rfl⟩))
  | data | other | controller => cases h; exact .inr (.inr (.inr ⟨_, _, _, rfl⟩))

/-- Settles O48: of what a turn can do while the core sleeps, the premises leave the environment's moves. -/
theorem sleepKeepsTheBlock : Obligations.SleepKeepsTheBlock := by
  intro s t hs h hr hcore hwdt hirq
  obtain ⟨ts, d, h⟩ := step_takesTurn h
  rcases takeTurn_asleep h hs with ht | ⟨ht, -⟩ | ⟨ht, -⟩ | ⟨ht, -⟩ | ⟨o, p, c, rfl⟩
  · exact absurd ht hr
  · exact absurd ht hcore
  · exact absurd ht hwdt
  · exact absurd ht hirq
  · rfl

/-- A turn that wakes the core is a reset, or an IRQ turn that takes an interrupt. -/
theorem takeTurn_wakes {t : Turn} {s u : State} (h : takeTurn t s = .next u) (hs : s.sleeping = true)
    (hu : u.sleeping = false) : Resets t s ∨ (t = .irq ∧ irqEnabled s = true ∧ u = takeIrq s) := by
  have hawake : u.sleeping ≠ s.sleeping := by simp [hs, hu]
  rcases takeTurn_asleep h hs with hr | ⟨-, rfl⟩ | ⟨-, hx, rfl⟩ | ⟨ht, rfl⟩ | ⟨o, p, c, rfl⟩
  · exact .inl hr
  · exact absurd (coreTick_sleeping s) hawake
  · exact absurd (by rw [wdtTick_eq s hx]) hawake
  · have he : irqEnabled s = true := by_contra fun he => hawake (by rw [irqTurn, if_neg he])
    exact .inr ⟨ht, he, by rw [irqTurn, if_pos he]⟩
  · exact absurd rfl hawake

/-- Settles O59: the interrupt that wakes the core was enabled, and its return leaves GIE at 1. -/
theorem sleepEndsOnlyByInterruptOrReset : Obligations.SleepEndsOnlyByInterruptOrReset := by
  intro s t hs h hu
  obtain ⟨ts, d, h⟩ := step_takesTurn h
  rcases takeTurn_wakes h hs hu with hr | ⟨ht, he, rfl⟩
  · exact .inl hr
  · obtain ⟨hg, hpend⟩ := (irqEnabled_iff _).mp he
    exact .inr ⟨ht, hg, hpend, by rw [takeIrq_eq]⟩

end Sys2Proof.Proofs

/-! ## Proof of the hazard statement: SEI then SLEEP against SEI_SLEEP, with a wake pending. -/

namespace Sys2Proof.Proofs

open Sys2Proof Sys2Proof.Machine Sys2Proof.Safety

/-- The only pending interrupt, a wake, is enabled under GIE = 1, and taking it clears WAKEF and wakes the core, asleep
or not (R115, R136). -/
theorem irqTurn_wake_alone {s : State} (hg : s.gie = true) (hw : s.wakef = true) (ho : s.otherPend = false) :
    irqEnabled s = true ∧
      irqTurn s = { s with wakef := false, sleeping := false, vectoredTo := s.build.wakeVector } := by
  have he : irqEnabled s = true := (irqEnabled_iff s).mpr ⟨hg, .inl hw⟩
  exact ⟨he, irqTurn_wake he (by simp [irqSource, hw, ho])⟩

/-- With nothing pending no interrupt is enabled (R115). -/
theorem irqEnabled_of_none_pending {s : State} (hw : s.wakef = false) (ho : s.otherPend = false) :
    irqEnabled s = false := by
  simp [irqEnabled, irqPending, hw, ho]

/-- An awake core with no interrupt enabled runs the host program (R114). -/
theorem hostEnabled_of_awake {s : State} (hs : s.sleeping = false) (he : irqEnabled s = false) :
    hostEnabled s = true := by
  simp [hostEnabled, hs, he]

/-- An enabled interrupt goes before the host program (R114). -/
theorem hostEnabled_of_irqEnabled {s : State} (he : irqEnabled s = true) : hostEnabled s = false := by
  simp [hostEnabled, he]

/-- Settles O47: taking the wake uses it up. After SEI that happens before SLEEP, which then sleeps with nothing
pending; after SEI_SLEEP the core is already asleep, and the same interrupt wakes it. -/
theorem seiThenSleepMissesTheWake : Obligations.SeiThenSleepMissesTheWake := by
  intro s _ _ hw ho
  constructor
  case left =>
    obtain ⟨-, hsei, -, -⟩ := primitivesWriteGieAndSleeping s
    obtain ⟨he, hirq⟩ := irqTurn_wake_alone (s := { s with gie := true }) rfl hw ho
    obtain ⟨-, -, hsleep, -⟩ := primitivesWriteGieAndSleeping (irqTurn { s with gie := true })
    refine ⟨{ s with gie := true }, _, hsei, hostEnabled_of_irqEnabled he, hsleep, ?_⟩
    rw [hirq]
    exact ⟨hostEnabled_of_awake rfl (irqEnabled_of_none_pending rfl ho), rfl, irqEnabled_of_none_pending rfl ho, rfl⟩
  case right =>
    obtain ⟨-, -, -, hseiSleep⟩ := primitivesWriteGieAndSleeping s
    obtain ⟨he, hirq⟩ := irqTurn_wake_alone (s := { s with gie := true, sleeping := true }) rfl hw ho
    refine ⟨_, hseiSleep, he, ?_⟩
    rw [hirq]
    exact ⟨rfl, rfl, rfl, hostEnabled_of_awake rfl (irqEnabled_of_none_pending rfl ho)⟩

end Sys2Proof.Proofs
